-- ==== Sys2Proof/Word.lean ====
section
/-!
DEFINITION. The widths of the block (`00_scope.md` R7, R8) and the one builder of a fixed-length table.
-/

namespace Sys2Proof

/-- A register or data byte (R20, R70). -/
abbrev Byte := BitVec 8

/-- A 16-bit command word (R70). -/
abbrev CmdWord := BitVec 16

/-- A 16-bit all-zeros or all-ones word: a mixer gate or the noise level (R7, R23, R25). -/
abbrev Mask16 := BitVec 16

/-- A 32-bit phase accumulator or phase step (R23, R25, R27). -/
abbrev Phase := BitVec 32

/-- A 15-bit three-voice word: voice A in bits 4..0, voice B in 9..5, voice C in 14..10 (R11). -/
abbrev Word3 := BitVec 15

/-- A 5-bit voice level (R7). -/
abbrev Level := BitVec 5

/-- A signed 16-bit sample, held as its two's-complement bits and read with `toInt` (R7, R8). -/
abbrev Sample := BitVec 16

/-- A pair of the ring buffer, left then right (R30). -/
abbrev StereoPair := Sample × Sample

/-- The 17-bit state of the noise LFSR (R25). -/
abbrev Lfsr := BitVec 17

/-- The table of length `n` whose entry `i` is `f i`. -/
def tabulate {α : Type} (n : Nat) (f : Nat → α) : Vector α n :=
  ⟨⟨(List.range' 0 n).map f⟩, by simp⟩

@[simp] theorem tabulate_getElem {α : Type} (n : Nat) (f : Nat → α) (i : Nat) (h : i < n) :
    (tabulate n f)[i] = f i := by
  simp [tabulate]

/-- `sext_16(trunc_16(v))` of R8, as the bits a sample holds. -/
abbrev wrap16 (v : Int) : Sample := BitVec.ofInt 16 v

/-- `trunc_32(v)` of R8. -/
abbrev trunc32 (v : Nat) : Phase := BitVec.ofNat 32 v

end Sys2Proof
end

