-- ==== Sys2Proof/Config.lean ====
section
/-!
DEFINITION. The configuration record `Cfg` of `00_scope.md` R6, the constants that R6 and R7 fix for every
instance, and the one free value of the model.  A field with a default here is a field R6 gives a default;
a field without one is OPEN in R6 (the model takes it as an argument: `CREATE` carries it, State holds it).
-/

namespace Sys2Proof

/-- `DAC_STRATEGY` (R6): which of the two constructions of `44_dac_table.md` builds the DAC table. -/
inductive DacStrategy where
  | measured
  | linear
  deriving DecidableEq, Repr

/-- `MEASURED_DAC_16` (R6, R152), written `M(c, b, a)`: read as `M[c][b][a]`. -/
abbrev MeasuredDac := Vector (Vector (Vector (BitVec 16) 16) 16) 16

/-- `VOICE_DAC_32` (R6, R153), written `D[0..31]`. -/
abbrev VoiceDac := Vector (BitVec 16) 32

/-- The configuration record of R6. -/
structure Cfg where
  chipClock      : Nat := 2000000
  sampleRate     : Nat
  fps            : Nat
  cyclesPerFrame : Nat
  toneShift      : Nat := 28
  noiseFracBits  : Nat := 16
  noiseShift     : Nat := 12
  envFracBits    : Nat := 25
  envShift       : Nat := 22
  lfsrTapA       : Nat := 0
  lfsrTapB       : Nat := 2
  lfsrSeed       : Nat := 1
  dacStrategy    : DacStrategy
  measuredDac16  : Option MeasuredDac
  voiceDac32     : Option VoiceDac
  outputLevel    : Nat
  doCenter       : Bool
  lpfEnable      : Bool
  dcN            : Nat := 512
  ringCapacity   : Nat := 8192
  deriving DecidableEq, Repr

namespace Config

/-- `TONE_FLOOR` (R6): the largest tone period whose step is 0. -/
def toneFloor : Nat := 5

/-- `NOISE_FLOOR` (R6): the smallest noise period whose step is not forced to 0. -/
def noiseFloor : Nat := 3

/-- `LFSR_WIDTH` (R6). -/
def lfsrWidth : Nat := 17

/-- The number of entries of one envelope shape (R7). -/
def envEntries : Nat := 96

/-- The entries the wrap of R134 takes back: two blocks of 32. -/
def envLoopEntries : Nat := 64

/-- FREE VALUE (`notes/assumptions/6.md`).  The word read when the envelope index passes the last entry of
the table.  R52 says that this cannot occur and specifies nothing; it can occur only when `ENV_FRAC_BITS` is
overridden by a value below its default 25.  Nothing constrains this value; the argument is the counter
`State.freeCtr`, so that each such read is a value of its own. -/
opaque envBeyondTable : Nat → Word3

end Config

end Sys2Proof
end

