-- ==== Sys2Proof/Syntax.lean ====
section
/-!
DEFINITION. The operations of the block, one constructor per row of the opcode table, and what travels on its
interface: the command word with its side operand (`30_encoding.md` R70, R71) and the snapshot record (R206).
-/

namespace Sys2Proof

/-- The snapshot record `σ` of R206.  Its entries are integers (`92_eei_decisions.md` D32, D35): a record that
reaches the block from outside can hold any, and the checks of R207 are what bounds them
(`notes/assumptions/10.md`). -/
structure Snapshot where
  reg      : Vector Nat 14
  pos      : Vector Nat 3
  tstep    : Vector Nat 3
  npos     : Nat
  nstep    : Nat
  seed     : Nat
  nlev     : Nat
  epos     : Nat
  estep    : Nat
  shape    : Nat
  vol3     : Nat
  envMask3 : Nat
  deriving DecidableEq, Repr

/-- The record every entry of which is 0: what the side operand's lines carry when a command gives no record. -/
def Snapshot.zero : Snapshot where
  reg := #v[0, 0, 0, 0, 0, 0, 0, 0, 0, 0, 0, 0, 0, 0]
  pos := #v[0, 0, 0]
  tstep := #v[0, 0, 0]
  npos := 0
  nstep := 0
  seed := 0
  nlev := 0
  epos := 0
  estep := 0
  shape := 0
  vol3 := 0
  envMask3 := 0

/-- A command as it stands on the interface (R70): the 16-bit word, and the operand that travels beside it,
a number for `ADVANCE` and `CONSUME`, a record for `SNAP_IMPORT`.  An operation that takes no operand of a
kind ignores what stands there (`notes/assumptions/2.md`). -/
structure Command where
  word   : CmdWord
  count  : Nat
  record : Snapshot
  deriving DecidableEq, Repr

/-- The two agents of R57. -/
inductive Agent where
  | producer
  | consumer
  deriving DecidableEq, Repr

/-- The operations: one constructor per row of `opcode_table.json`. -/
inductive Instr where
  /-- `WRITE 0, d`: tone A fine period (R101). -/
  | writeR0 (d : Byte)
  /-- `WRITE 1, d`: tone A coarse period (R102). -/
  | writeR1 (d : Byte)
  /-- `WRITE 2, d`: tone B fine period (R103). -/
  | writeR2 (d : Byte)
  /-- `WRITE 3, d`: tone B coarse period (R104). -/
  | writeR3 (d : Byte)
  /-- `WRITE 4, d`: tone C fine period (R105). -/
  | writeR4 (d : Byte)
  /-- `WRITE 5, d`: tone C coarse period (R106). -/
  | writeR5 (d : Byte)
  /-- `WRITE 6, d`: noise period (R107). -/
  | writeR6 (d : Byte)
  /-- `WRITE 7, d`: mixer (R108). -/
  | writeR7 (d : Byte)
  /-- `WRITE 8, d`: amplitude A (R110). -/
  | writeR8 (d : Byte)
  /-- `WRITE 9, d`: amplitude B (R111). -/
  | writeR9 (d : Byte)
  /-- `WRITE 10, d`: amplitude C (R112). -/
  | writeR10 (d : Byte)
  /-- `WRITE 11, d`: envelope period fine (R113). -/
  | writeR11 (d : Byte)
  /-- `WRITE 12, d`: envelope period coarse (R114). -/
  | writeR12 (d : Byte)
  /-- `WRITE 13, d`: envelope shape (R115). -/
  | writeR13 (d : Byte)
  /-- `WRITE 14, d`: an index that holds no register (R116). -/
  | writeR14 (d : Byte)
  /-- `WRITE 15, d`: an index that holds no register (R116). -/
  | writeR15 (d : Byte)
  /-- `RESET` (R250). -/
  | reset
  /-- `ADVANCE cycles` (R200). -/
  | advance (cycles : Nat)
  /-- `CONSUME k` (R203). -/
  | consume (k : Nat)
  /-- `ACK_SHAPE` (R205). -/
  | ackShape
  /-- `SNAP_EXPORT` (R206). -/
  | snapExport
  /-- `SNAP_IMPORT σ` (R207). -/
  | snapImport (σ : Snapshot)
  /-- A word of class `0x1` whose low twelve bits are not all 0 (R76). -/
  | reservedOperand1 (low : BitVec 12)
  /-- A word of class `0x2` whose low twelve bits are not all 0 (R76). -/
  | reservedOperand2 (low : BitVec 12)
  /-- A word of class `0x3` whose low twelve bits are not all 0 (R76). -/
  | reservedOperand3 (low : BitVec 12)
  /-- A word of class `0x4` whose low twelve bits are not all 0 (R76). -/
  | reservedOperand4 (low : BitVec 12)
  /-- A word of class `0x5` whose low twelve bits are not all 0 (R76). -/
  | reservedOperand5 (low : BitVec 12)
  /-- A word of class `0x6` whose low twelve bits are not all 0 (R76). -/
  | reservedOperand6 (low : BitVec 12)
  /-- A word of the reserved class `0x7` (R76). -/
  | reserved7 (low : BitVec 12)
  /-- A word of the reserved class `0x8` (R76). -/
  | reserved8 (low : BitVec 12)
  /-- A word of the reserved class `0x9` (R76). -/
  | reserved9 (low : BitVec 12)
  /-- A word of the reserved class `0xA` (R76). -/
  | reservedA (low : BitVec 12)
  /-- A word of the reserved class `0xB` (R76). -/
  | reservedB (low : BitVec 12)
  /-- A word of the reserved class `0xC` (R76). -/
  | reservedC (low : BitVec 12)
  /-- A word of the reserved class `0xD` (R76). -/
  | reservedD (low : BitVec 12)
  /-- A word of the reserved class `0xE` (R76). -/
  | reservedE (low : BitVec 12)
  /-- A word of the reserved class `0xF` (R76). -/
  | reservedF (low : BitVec 12)
  /-- `NEXT_SAMPLE` (R170): the micro-operation that `ADVANCE` runs; no command word (R71). -/
  | nextSample
  /-- `CREATE cfg` (R256): construction of an instance; no command word (R71). -/
  | create (cfg : Cfg)
  deriving DecidableEq, Repr

/-- `WRITE r, d` (R71, R75): the operation of the row of register index `r`. -/
def Instr.write (r : BitVec 4) (d : Byte) : Instr :=
  match r.toNat with
  | 0 => .writeR0 d
  | 1 => .writeR1 d
  | 2 => .writeR2 d
  | 3 => .writeR3 d
  | 4 => .writeR4 d
  | 5 => .writeR5 d
  | 6 => .writeR6 d
  | 7 => .writeR7 d
  | 8 => .writeR8 d
  | 9 => .writeR9 d
  | 10 => .writeR10 d
  | 11 => .writeR11 d
  | 12 => .writeR12 d
  | 13 => .writeR13 d
  | 14 => .writeR14 d
  | _ => .writeR15 d

/-- The agent that issues an operation (R57, R237).  The roles are fixed by the operation, so a `WRITE` issued
by the consumer (R61) is no input of the model.  No agent issues a reserved word or an operation without a
command word. -/
def Instr.issuer : Instr → Option Agent
  | .writeR0 _ => some .producer
  | .writeR1 _ => some .producer
  | .writeR2 _ => some .producer
  | .writeR3 _ => some .producer
  | .writeR4 _ => some .producer
  | .writeR5 _ => some .producer
  | .writeR6 _ => some .producer
  | .writeR7 _ => some .producer
  | .writeR8 _ => some .producer
  | .writeR9 _ => some .producer
  | .writeR10 _ => some .producer
  | .writeR11 _ => some .producer
  | .writeR12 _ => some .producer
  | .writeR13 _ => some .producer
  | .writeR14 _ => some .producer
  | .writeR15 _ => some .producer
  | .reset => some .producer
  | .advance _ => some .producer
  | .consume _ => some .consumer
  | .ackShape => some .producer
  | .snapExport => some .producer
  | .snapImport _ => some .producer
  | .reservedOperand1 _ => none
  | .reservedOperand2 _ => none
  | .reservedOperand3 _ => none
  | .reservedOperand4 _ => none
  | .reservedOperand5 _ => none
  | .reservedOperand6 _ => none
  | .reserved7 _ => none
  | .reserved8 _ => none
  | .reserved9 _ => none
  | .reservedA _ => none
  | .reservedB _ => none
  | .reservedC _ => none
  | .reservedD _ => none
  | .reservedE _ => none
  | .reservedF _ => none
  | .nextSample => none
  | .create _ => none

end Sys2Proof
end

