-- ==== Sys2Proof/WellFormed.lean ====
section
/-!
DEFINITION. Which operation terms stand for a row of the opcode table: the rows `RESERVED_OPERAND_1` to
`RESERVED_OPERAND_6` are the words whose low twelve bits are NOT all 0 (`30_encoding.md` R75, R76).
-/

namespace Sys2Proof

/-- The term is one its row of the opcode table describes.  Side operands are checked by the operations that
read them (R203, R207, R256), not here. -/
def Instr.wellFormed : Instr → Bool
  | .writeR0 _ => true
  | .writeR1 _ => true
  | .writeR2 _ => true
  | .writeR3 _ => true
  | .writeR4 _ => true
  | .writeR5 _ => true
  | .writeR6 _ => true
  | .writeR7 _ => true
  | .writeR8 _ => true
  | .writeR9 _ => true
  | .writeR10 _ => true
  | .writeR11 _ => true
  | .writeR12 _ => true
  | .writeR13 _ => true
  | .writeR14 _ => true
  | .writeR15 _ => true
  | .reset => true
  | .advance _ => true
  | .consume _ => true
  | .ackShape => true
  | .snapExport => true
  | .snapImport _ => true
  | .reservedOperand1 low => decide (low ≠ 0)
  | .reservedOperand2 low => decide (low ≠ 0)
  | .reservedOperand3 low => decide (low ≠ 0)
  | .reservedOperand4 low => decide (low ≠ 0)
  | .reservedOperand5 low => decide (low ≠ 0)
  | .reservedOperand6 low => decide (low ≠ 0)
  | .reserved7 _ => true
  | .reserved8 _ => true
  | .reserved9 _ => true
  | .reservedA _ => true
  | .reservedB _ => true
  | .reservedC _ => true
  | .reservedD _ => true
  | .reservedE _ => true
  | .reservedF _ => true
  | .nextSample => true
  | .create _ => true

/-- The operation has a command word: all but `NEXT_SAMPLE` and `CREATE` (R71). -/
def Instr.hasWord : Instr → Bool
  | .writeR0 _ => true
  | .writeR1 _ => true
  | .writeR2 _ => true
  | .writeR3 _ => true
  | .writeR4 _ => true
  | .writeR5 _ => true
  | .writeR6 _ => true
  | .writeR7 _ => true
  | .writeR8 _ => true
  | .writeR9 _ => true
  | .writeR10 _ => true
  | .writeR11 _ => true
  | .writeR12 _ => true
  | .writeR13 _ => true
  | .writeR14 _ => true
  | .writeR15 _ => true
  | .reset => true
  | .advance _ => true
  | .consume _ => true
  | .ackShape => true
  | .snapExport => true
  | .snapImport _ => true
  | .reservedOperand1 _ => true
  | .reservedOperand2 _ => true
  | .reservedOperand3 _ => true
  | .reservedOperand4 _ => true
  | .reservedOperand5 _ => true
  | .reservedOperand6 _ => true
  | .reserved7 _ => true
  | .reserved8 _ => true
  | .reserved9 _ => true
  | .reservedA _ => true
  | .reservedB _ => true
  | .reservedC _ => true
  | .reservedD _ => true
  | .reservedE _ => true
  | .reservedF _ => true
  | .nextSample => false
  | .create _ => false

end Sys2Proof
end

