-- ==== Sys2Proof/Decode.lean ====
section
/-!
DEFINITION. Decoding and encoding of command words (`30_encoding.md` R70 to R76).  Every 16-bit word is
decoded, by the order of R75; a reserved word decodes to the constructor of its row, and the meaning of that
constructor refuses it by name (R76).
-/

namespace Sys2Proof

/-- A word alone: the lines of the side operand carry zeros. -/
def Command.ofWord (w : CmdWord) : Command := ⟨w, 0, .zero⟩

/-- The complete decode of R75. -/
def decode (c : Command) : Instr :=
  let low := c.word.extractLsb' 0 12
  match (c.word.extractLsb' 12 4).toNat with
  | 0 => .write (c.word.extractLsb' 8 4) (c.word.extractLsb' 0 8)
  | 1 => if low = 0 then .reset else .reservedOperand1 low
  | 2 => if low = 0 then .advance c.count else .reservedOperand2 low
  | 3 => if low = 0 then .consume c.count else .reservedOperand3 low
  | 4 => if low = 0 then .ackShape else .reservedOperand4 low
  | 5 => if low = 0 then .snapExport else .reservedOperand5 low
  | 6 => if low = 0 then .snapImport c.record else .reservedOperand6 low
  | 7 => .reserved7 low
  | 8 => .reserved8 low
  | 9 => .reserved9 low
  | 10 => .reservedA low
  | 11 => .reservedB low
  | 12 => .reservedC low
  | 13 => .reservedD low
  | 14 => .reservedE low
  | _ => .reservedF low

/-- Format `W` of R70: class 0, register index, data byte. -/
def wordW (r : BitVec 4) (d : Byte) : CmdWord := (0#4 ++ r) ++ d

/-- Format `H` of R70: a class and the twelve bits below it, all 0 for an operation of R71. -/
def wordH (op : BitVec 4) (low : BitVec 12) : CmdWord := op ++ low

/-- The command that stands for an operation; none for the two that have no command word (R71). -/
def encode : Instr → Option Command
  | .writeR0 d => some (.ofWord (wordW 0 d))
  | .writeR1 d => some (.ofWord (wordW 1 d))
  | .writeR2 d => some (.ofWord (wordW 2 d))
  | .writeR3 d => some (.ofWord (wordW 3 d))
  | .writeR4 d => some (.ofWord (wordW 4 d))
  | .writeR5 d => some (.ofWord (wordW 5 d))
  | .writeR6 d => some (.ofWord (wordW 6 d))
  | .writeR7 d => some (.ofWord (wordW 7 d))
  | .writeR8 d => some (.ofWord (wordW 8 d))
  | .writeR9 d => some (.ofWord (wordW 9 d))
  | .writeR10 d => some (.ofWord (wordW 10 d))
  | .writeR11 d => some (.ofWord (wordW 11 d))
  | .writeR12 d => some (.ofWord (wordW 12 d))
  | .writeR13 d => some (.ofWord (wordW 13 d))
  | .writeR14 d => some (.ofWord (wordW 14 d))
  | .writeR15 d => some (.ofWord (wordW 15 d))
  | .reset => some (.ofWord (wordH 1 0))
  | .advance cycles => some { Command.ofWord (wordH 2 0) with count := cycles }
  | .consume k => some { Command.ofWord (wordH 3 0) with count := k }
  | .ackShape => some (.ofWord (wordH 4 0))
  | .snapExport => some (.ofWord (wordH 5 0))
  | .snapImport σ => some { Command.ofWord (wordH 6 0) with record := σ }
  | .reservedOperand1 low => some (.ofWord (wordH 1 low))
  | .reservedOperand2 low => some (.ofWord (wordH 2 low))
  | .reservedOperand3 low => some (.ofWord (wordH 3 low))
  | .reservedOperand4 low => some (.ofWord (wordH 4 low))
  | .reservedOperand5 low => some (.ofWord (wordH 5 low))
  | .reservedOperand6 low => some (.ofWord (wordH 6 low))
  | .reserved7 low => some (.ofWord (wordH 7 low))
  | .reserved8 low => some (.ofWord (wordH 8 low))
  | .reserved9 low => some (.ofWord (wordH 9 low))
  | .reservedA low => some (.ofWord (wordH 10 low))
  | .reservedB low => some (.ofWord (wordH 11 low))
  | .reservedC low => some (.ofWord (wordH 12 low))
  | .reservedD low => some (.ofWord (wordH 13 low))
  | .reservedE low => some (.ofWord (wordH 14 low))
  | .reservedF low => some (.ofWord (wordH 15 low))
  | .nextSample => none
  | .create _ => none

/-- The operation the decoder reads from the word `w` of an opcode-table row of `nbits` bits, the side operand
all zeros.  A command is one 16-bit word (R70), so there is none of another length than the table's. -/
def decodeTableWord (nbits w : Nat) : Option Instr :=
  if 0 < nbits ∧ nbits ≤ 16 then some (decode (.ofWord (BitVec.ofNat 16 (w % 2 ^ nbits)))) else none

/-- The name of an operation's row in `opcode_table.json`. -/
def Instr.mnemonic : Instr → String
  | .writeR0 _ => "WRITE_R0"
  | .writeR1 _ => "WRITE_R1"
  | .writeR2 _ => "WRITE_R2"
  | .writeR3 _ => "WRITE_R3"
  | .writeR4 _ => "WRITE_R4"
  | .writeR5 _ => "WRITE_R5"
  | .writeR6 _ => "WRITE_R6"
  | .writeR7 _ => "WRITE_R7"
  | .writeR8 _ => "WRITE_R8"
  | .writeR9 _ => "WRITE_R9"
  | .writeR10 _ => "WRITE_R10"
  | .writeR11 _ => "WRITE_R11"
  | .writeR12 _ => "WRITE_R12"
  | .writeR13 _ => "WRITE_R13"
  | .writeR14 _ => "WRITE_R14"
  | .writeR15 _ => "WRITE_R15"
  | .reset => "RESET"
  | .advance _ => "ADVANCE"
  | .consume _ => "CONSUME"
  | .ackShape => "ACK_SHAPE"
  | .snapExport => "SNAP_EXPORT"
  | .snapImport _ => "SNAP_IMPORT"
  | .reservedOperand1 _ => "RESERVED_OPERAND_1"
  | .reservedOperand2 _ => "RESERVED_OPERAND_2"
  | .reservedOperand3 _ => "RESERVED_OPERAND_3"
  | .reservedOperand4 _ => "RESERVED_OPERAND_4"
  | .reservedOperand5 _ => "RESERVED_OPERAND_5"
  | .reservedOperand6 _ => "RESERVED_OPERAND_6"
  | .reserved7 _ => "RESERVED_7"
  | .reserved8 _ => "RESERVED_8"
  | .reserved9 _ => "RESERVED_9"
  | .reservedA _ => "RESERVED_A"
  | .reservedB _ => "RESERVED_B"
  | .reservedC _ => "RESERVED_C"
  | .reservedD _ => "RESERVED_D"
  | .reservedE _ => "RESERVED_E"
  | .reservedF _ => "RESERVED_F"
  | .nextSample => "NEXT_SAMPLE"
  | .create _ => "CREATE"

/-- A row of `opcode_table.json` that has a command word: `match`, `mask` and `priority` of R75. -/
structure OpcodeRow where
  mnemonic : String
  pattern  : CmdWord
  mask     : CmdWord
  priority : Nat
  deriving DecidableEq, Repr

/-- The rows of `WRITE` (R75). -/
def writeRows : List OpcodeRow :=
  [ ⟨"WRITE_R0", 0x000, 0xFF00, 1⟩, ⟨"WRITE_R1", 0x100, 0xFF00, 1⟩,
    ⟨"WRITE_R2", 0x200, 0xFF00, 1⟩, ⟨"WRITE_R3", 0x300, 0xFF00, 1⟩,
    ⟨"WRITE_R4", 0x400, 0xFF00, 1⟩, ⟨"WRITE_R5", 0x500, 0xFF00, 1⟩,
    ⟨"WRITE_R6", 0x600, 0xFF00, 1⟩, ⟨"WRITE_R7", 0x700, 0xFF00, 1⟩,
    ⟨"WRITE_R8", 0x800, 0xFF00, 1⟩, ⟨"WRITE_R9", 0x900, 0xFF00, 1⟩,
    ⟨"WRITE_R10", 0xA00, 0xFF00, 1⟩, ⟨"WRITE_R11", 0xB00, 0xFF00, 1⟩,
    ⟨"WRITE_R12", 0xC00, 0xFF00, 1⟩, ⟨"WRITE_R13", 0xD00, 0xFF00, 1⟩,
    ⟨"WRITE_R14", 0xE00, 0xFF00, 1⟩, ⟨"WRITE_R15", 0xF00, 0xFF00, 1⟩ ]

/-- The rows of the class `H` operations (R75). -/
def hostRows : List OpcodeRow :=
  [ ⟨"RESET", 0x1000, 0xFFFF, 1⟩, ⟨"ADVANCE", 0x2000, 0xFFFF, 1⟩,
    ⟨"CONSUME", 0x3000, 0xFFFF, 1⟩, ⟨"ACK_SHAPE", 0x4000, 0xFFFF, 1⟩,
    ⟨"SNAP_EXPORT", 0x5000, 0xFFFF, 1⟩, ⟨"SNAP_IMPORT", 0x6000, 0xFFFF, 1⟩ ]

/-- The rows of nonzero low bits in classes 1 to 6 (R75). -/
def operandRows : List OpcodeRow :=
  [ ⟨"RESERVED_OPERAND_1", 0x1000, 0xF000, 2⟩, ⟨"RESERVED_OPERAND_2", 0x2000, 0xF000, 2⟩,
    ⟨"RESERVED_OPERAND_3", 0x3000, 0xF000, 2⟩, ⟨"RESERVED_OPERAND_4", 0x4000, 0xF000, 2⟩,
    ⟨"RESERVED_OPERAND_5", 0x5000, 0xF000, 2⟩, ⟨"RESERVED_OPERAND_6", 0x6000, 0xF000, 2⟩ ]

/-- The rows of the reserved classes (R75). -/
def reservedRows : List OpcodeRow :=
  [ ⟨"RESERVED_7", 0x7000, 0xF000, 1⟩, ⟨"RESERVED_8", 0x8000, 0xF000, 1⟩,
    ⟨"RESERVED_9", 0x9000, 0xF000, 1⟩, ⟨"RESERVED_A", 0xA000, 0xF000, 1⟩,
    ⟨"RESERVED_B", 0xB000, 0xF000, 1⟩, ⟨"RESERVED_C", 0xC000, 0xF000, 1⟩,
    ⟨"RESERVED_D", 0xD000, 0xF000, 1⟩, ⟨"RESERVED_E", 0xE000, 0xF000, 1⟩,
    ⟨"RESERVED_F", 0xF000, 0xF000, 1⟩ ]

/-- The rows of `opcode_table.json` that have a command word. -/
def opcodeRows : List OpcodeRow := writeRows ++ hostRows ++ operandRows ++ reservedRows

/-- The rows that match a word: those whose masked bits are the row's. -/
def matchingRows (w : CmdWord) : List OpcodeRow := opcodeRows.filter fun r => w &&& r.mask == r.pattern

/-- The matching rows of lowest priority number, by which R75 decodes a word. -/
def decodingRows (w : CmdWord) : List OpcodeRow :=
  (matchingRows w).filter fun r => (matchingRows w).all fun r' => decide (r.priority ≤ r'.priority)

end Sys2Proof
end

