-- ==== Sys2Proof/Machine/DacTable.lean ====
section
/-!
DEFINITION. The 4-bit-to-5-bit volume expansion and the construction of the DAC table (`44_dac_table.md` R150 to
R156).
-/

namespace Sys2Proof.Machine

/-- `VOL4TO5` (R150). -/
def vol4to5Table : Vector Level 16 :=
  #v[0, 2, 5, 7, 9, 11, 13, 15, 17, 19, 21, 23, 25, 27, 29, 31]

/-- `VOL4TO5[L]` (R150). -/
def vol4to5 (l : BitVec 4) : Level := vol4to5Table[l.toNat]'l.isLt

/-- The input of the construction the strategy selects (R152, R153). -/
inductive DacSource where
  | measured (m : MeasuredDac)
  | linear (d : VoiceDac)
  deriving DecidableEq, Repr

/-- The measured point `M(c, b, a)` (R152). -/
def measuredPoint (m : MeasuredDac) (c b a : BitVec 4) : Nat :=
  (((m[c.toNat]'c.isLt)[b.toNat]'b.isLt)[a.toNat]'a.isLt).toNat

/-- `AxisTerms(x)` (R152): the measured indices a 5-bit level blends, each with its weight in fifths. -/
def axisTerms (x : Level) : List (BitVec 4 × Nat) :=
  let i : BitVec 4 := x.extractLsb' 1 4
  if x.getLsbD 0 then [(i, 5)] else [(if i = 0 then 0 else i - 1, 2), (i, 3)]

/-- The weighted sum of R152, over the common denominator `5 * 5 * 5` of its weights (DEDUCED,
`notes/assumptions/12.md`). -/
def blendSum (m : MeasuredDac) (c b a : Level) : Nat :=
  ((axisTerms c).map fun tc =>
    ((axisTerms b).map fun tb =>
      ((axisTerms a).map fun ta => tc.2 * tb.2 * ta.2 * measuredPoint m tc.1 tb.1 ta.1).sum).sum).sum

/-- The level `D[x]` of one voice (R153). -/
def voiceLevel (d : VoiceDac) (x : Level) : Nat := (d[x.toNat]'x.isLt).toNat

/-- The pre-normalisation entry `T(c, b, a)` of R152 (floored once, then clamped) or of R153. -/
def rawEntry (src : DacSource) (c b a : Level) : Nat :=
  match src with
  | .measured m => min (blendSum m c b a / 125) 65535
  | .linear d => (voiceLevel d a + voiceLevel d b + voiceLevel d c) / 3

/-- The level of voice `v` in a three-voice index (R11, R151). -/
def levelOf (v : Fin 3) (i : Word3) : Level := i.extractLsb' (5 * v.val) 5

/-- Entry `i` of the table `T`: `i = (c << 10) | (b << 5) | a` (R151). -/
def rawAt (src : DacSource) (i : Word3) : Nat := rawEntry src (levelOf 2 i) (levelOf 1 i) (levelOf 0 i)

/-- The largest of `m` and the values `f` takes on a list. -/
def maxOn {α : Type} (f : α → Nat) : List α → Nat → Nat
  | [], m => m
  | x :: xs, m => if m < f x then maxOn f xs (f x) else maxOn f xs m

/-- The largest value of `f` on three elements of a list. -/
def maxOn3 {α : Type} (l : List α) (f : α → α → α → Nat) : Nat :=
  maxOn (fun c => maxOn (fun b => maxOn (fun a => f c b a) l 0) l 0) l 0

/-- The 32 levels of a voice. -/
def allLevels : List Level := (List.range' 0 32).map (BitVec.ofNat 5)

/-- `Max` of R155: the maximum of `T` over all 32768 entries.  With the linear strategy an entry depends on
the three voices' table values alone, so the maximum runs over those (DEDUCED, `notes/assumptions/12.md`). -/
def rawMax : DacSource → Nat
  | .measured m => maxOn3 allLevels fun c b a => rawEntry (.measured m) c b a
  | .linear d => maxOn3 (d.toList.map BitVec.toNat) fun c b a => (a + b + c) / 3

/-- `c` of R155, half the output ceiling. -/
def centerOf (cfg : Cfg) : Nat := (cfg.outputLevel + 1) >>> 1

/-- Normalisation of one entry (R155); `mx` is the table's maximum. -/
def normalise (cfg : Cfg) (mx t : Nat) : Int :=
  let r : Int := if mx = 0 then 0 else ((t * cfg.outputLevel / mx : Nat) : Int)
  if cfg.doCenter then r - centerOf cfg else r

/-- `N[i]` of R155. -/
def normAt (src : DacSource) (cfg : Cfg) (i : Word3) : Int := normalise cfg (rawMax src) (rawAt src i)

/-- `DacTab` (R156): entry `i` is `N[i]`. -/
def dacTable (src : DacSource) (cfg : Cfg) : Vector Sample 32768 :=
  let mx := rawMax src
  tabulate 32768 fun i => wrap16 (normalise cfg mx (rawAt src (BitVec.ofNat 15 i)))

end Sys2Proof.Machine
end

