-- ==== Sys2Proof/Machine/CfgCheck.lean ====
section
/-!
DEFINITION. The conditions on `Cfg` that `CREATE` checks (`00_scope.md` R6, `70_reset_and_hazards.md` R256), and
the vector configuration of `95_test_vectors.md`.
-/

namespace Sys2Proof.Machine

/-- The numeric conditions of R6 (its table and its list of well-formedness conditions) and those of R256 on
the taps and the seed.  That the ranges of R6's table are conditions too is DEDUCED (`notes/assumptions/8.md`). -/
abbrev CfgNumbersOk (c : Cfg) : Prop :=
  0 < c.sampleRate ∧ 0 < c.fps ∧ c.fps ≤ c.sampleRate ∧ 0 < c.cyclesPerFrame ∧
  1 ≤ c.outputLevel ∧ c.outputLevel ≤ 65535 ∧ (c.doCenter = false → c.outputLevel ≤ 32767) ∧
  2 ^ c.dcN.log2 = c.dcN ∧ 1 ≤ c.ringCapacity ∧
  c.lfsrTapA = 0 ∧ 0 < c.lfsrTapB ∧ c.lfsrTapB < Config.lfsrWidth ∧
  1 ≤ c.lfsrSeed ∧ c.lfsrSeed ≤ 2 ^ Config.lfsrWidth - 1

/-- The table the strategy needs, when it is present (R6). -/
def dacSource (c : Cfg) : Option DacSource :=
  match c.dacStrategy with
  | .measured => c.measuredDac16.map .measured
  | .linear => c.voiceDac32.map .linear

/-- `CREATE` accepts the configuration (R256). -/
def cfgOk (c : Cfg) : Bool := decide (CfgNumbersOk c) && (dacSource c).isSome

/-- `SAMPLES_PER_FRAME` (R6). -/
def samplesPerFrame (c : Cfg) : Nat := c.sampleRate / c.fps

/-- `E_VOICE_DAC` (R154): the spec's own example table, not the hardware's. -/
def exampleVoiceDac : VoiceDac :=
  #v[0, 362, 431, 512, 609, 724, 861, 1024,
     1218, 1448, 1722, 2048, 2435, 2896, 3444, 4096,
     4871, 5793, 6889, 8192, 9742, 11585, 13777, 16384,
     19484, 23170, 27554, 32768, 38967, 46340, 55108, 65535]

/-- The vector configuration of `95_test_vectors.md`: "Each program starts from `CREATE` with the vector
configuration, which is the reset state" (its section 3). -/
def vectorCfg : Cfg where
  sampleRate := 44100
  fps := 50
  cyclesPerFrame := 160256
  dacStrategy := .linear
  measuredDac16 := none
  voiceDac32 := some exampleVoiceDac
  outputLevel := 32767
  doCenter := true
  lpfEnable := false

end Sys2Proof.Machine
end

