-- ==== Sys2Proof/Machine/EnvTable.lean ====
section
/-!
DEFINITION. The envelope table (`42_envelope.md` R130 to R132).
-/

namespace Sys2Proof.Machine

/-- The four primitive ramps of R131. -/
inductive Ramp where
  | goDown
  | goUp
  | down
  | up
  deriving DecidableEq, Repr

/-- The `start` value of a primitive (R131). -/
def rampStart : Ramp → Int
  | .goDown => 31
  | .goUp => 0
  | .down => 0
  | .up => 31

/-- The per-entry `delta` of a primitive (R131). -/
def rampDelta : Ramp → Int
  | .goDown => -1
  | .goUp => 1
  | .down => 0
  | .up => 0

/-- `SHAPEDEF[s]` (R132): the three blocks of shape `s`. -/
def shapeBlocks : Nat → Ramp × Ramp × Ramp
  | 0 => (.goDown, .down, .down)
  | 1 => (.goDown, .down, .down)
  | 2 => (.goDown, .down, .down)
  | 3 => (.goDown, .down, .down)
  | 4 => (.goUp, .down, .down)
  | 5 => (.goUp, .down, .down)
  | 6 => (.goUp, .down, .down)
  | 7 => (.goUp, .down, .down)
  | 8 => (.goDown, .goDown, .goDown)
  | 9 => (.goDown, .down, .down)
  | 10 => (.goDown, .goUp, .goDown)
  | 11 => (.goDown, .up, .up)
  | 12 => (.goUp, .goUp, .goUp)
  | 13 => (.goUp, .up, .up)
  | 14 => (.goUp, .goDown, .goUp)
  | _ => (.goUp, .down, .down)

/-- Block `b` of shape `s` (R131, R132). -/
def shapeBlock (s b : Nat) : Ramp :=
  match b with
  | 0 => (shapeBlocks s).1
  | 1 => (shapeBlocks s).2.1
  | _ => (shapeBlocks s).2.2

/-- `lvl(s, k)` (R131): entry `k = 32 b + i` walks the primitive of block `b`, clamped to `[0, 31]`. -/
def envLevel (s k : Nat) : Nat :=
  let r := shapeBlock s (k / 32)
  (max 0 (min 31 (rampStart r + (k % 32 : Nat) * rampDelta r))).toNat

/-- `EnvTab` (R130): the level of an entry in all three voice fields. -/
def envTable : Vector (Vector Word3 96) 16 :=
  tabulate 16 fun s => tabulate 96 fun k => BitVec.ofNat 15 (envLevel s k * 0x421)

end Sys2Proof.Machine
end

