-- ==== Sys2Proof/Machine/Operands.lean ====
section
/-!
DEFINITION. Operand assembly: the write masks of the registers (`10_state.md` R21, `30_encoding.md` R72), the
periods and fields taken from register bytes (R73, R74), and the voice fields of a three-voice word (R11).
-/

namespace Sys2Proof.Machine

/-- `MASK` (R21, R72): the bits register `r` keeps. -/
def regMask : Vector Byte 14 :=
  #v[0xFF, 0x0F, 0xFF, 0x0F, 0xFF, 0x0F, 0x1F, 0x3F, 0x1F, 0x1F, 0x1F, 0xFF, 0xFF, 0x0F]

/-- `TP = {hi[3:0], lo[7:0]}` (R73). -/
def tonePeriod (hi lo : Byte) : Nat := (hi.extractLsb' 0 4 ++ lo).toNat

/-- `NP = r[4:0]` (R73). -/
def noisePeriod (r : Byte) : Nat := (r.extractLsb' 0 5).toNat

/-- `EP = {hi[7:0], lo[7:0]}` (R73). -/
def envPeriod (hi lo : Byte) : Nat := (hi ++ lo).toNat

/-- A gate mask (R23, R108): all ones, the source disabled, when its bit of register 7 is set. -/
def gateOf (mixer : Byte) (bit : Nat) : Mask16 := if mixer.getLsbD bit then 0xFFFF else 0x0000

/-- The tone gate of voice `v` (R74, R108): bit `v` of register 7. -/
def toneGate (mixer : Byte) (v : Fin 3) : Mask16 := gateOf mixer v

/-- The noise gate of voice `v` (R74, R108): bit `v + 3` of register 7. -/
def noiseGate (mixer : Byte) (v : Fin 3) : Mask16 := gateOf mixer (v + 3)

/-- The mode bit of an amplitude register (R74): set selects the envelope. -/
def envMode (amp : Byte) : Bool := amp.getLsbD 4

/-- The fixed volume of an amplitude register (R74). -/
def fixedVolume (amp : Byte) : BitVec 4 := amp.extractLsb' 0 4

/-- `VMASK[v]` (R11): the field of voice `v` in a three-voice word. -/
def voiceMask (v : Fin 3) : Word3 := #v[0x001F, 0x03E0, 0x7C00][v]

/-- A level placed in the field of voice `v` (R11, R109). -/
def levelAt (v : Fin 3) (l : Level) : Word3 := l.setWidth 15 <<< (5 * v.val)

end Sys2Proof.Machine
end

