-- ==== Sys2Proof/Machine/Steps.lean ====
section
/-!
DEFINITION. The three step computations (`41_step_computation.md` R120 to R122): pure functions of the
configuration and of register bytes.
-/

namespace Sys2Proof.Machine

/-- `ToneStep(hi, lo)` (R120). -/
def toneStep (cfg : Cfg) (hi lo : Byte) : Phase :=
  let tp := tonePeriod hi lo
  if tp ≤ Config.toneFloor then 0
  else trunc32 ((cfg.chipClock <<< cfg.toneShift) / (tp * cfg.sampleRate))

/-- `NoiseStep(r)` (R121). -/
def noiseStep (cfg : Cfg) (r : Byte) : Phase :=
  let np := noisePeriod r
  if np < Config.noiseFloor then 0
  else trunc32 ((cfg.chipClock <<< cfg.noiseShift) / (np * cfg.sampleRate))

/-- The quotient of R122 for an envelope period that is not 0. -/
def envStepOf (cfg : Cfg) (ep : Nat) : Phase :=
  trunc32 ((cfg.chipClock <<< cfg.envShift) / (ep * cfg.sampleRate))

/-- `EnvStep(hi, lo)` (R122): period 0 steps by half of what period 1 does. -/
def envStep (cfg : Cfg) (hi lo : Byte) : Phase :=
  let ep := envPeriod hi lo
  if ep = 0 then envStepOf cfg 1 >>> 1 else envStepOf cfg ep

end Sys2Proof.Machine
end

