-- ==== Sys2Proof/Machine/State.lean ====
section
/-!
DEFINITION. Everything the spec gives the block (`10_state.md` R20 to R37), as plain data, with the two ends of its
interface; the reasons an operation can be refused (`60_exceptions.md` R231); the state after reset (R37).
-/

namespace Sys2Proof.Machine

/-- The ways the machine can stop with a fault: none.  "The block raises no exception" (R230) and has no fault
or stuck case (`93_implementation_defined.md`); an empty type makes that a fact about every step.  Safe: there
is no such outcome to reach (`notes/assumptions/13.md`). -/
inductive Fault where
  deriving DecidableEq, Repr

/-- The reasons an operation is refused: those of R231, and the marker of an arm without a meaning. -/
inductive Refusal where
  /-- An arm of `exec` that has no meaning yet; raised by no arm of this model.  Safe. -/
  | notModelled (mnemonic : String)
  /-- `ReservedOp` (R76, R231): a word of class `0x7` to `0xF`; raised by `execReserved7` to `execReservedF`.
  Safe: the spec gives such a word no meaning. -/
  | reservedOp
  /-- `ReservedOperandBits` (R76, R231): a word of class `0x1` to `0x6` with nonzero low bits; raised by
  `execReservedOperand1` to `execReservedOperand6`.  Safe: the spec gives such a word no meaning. -/
  | reservedOperandBits
  /-- `ConsumeTooMany` (R203, R231): raised by `execConsume` when it is asked for more pairs than are
  pending.  Safe: the spec refuses it. -/
  | consumeTooMany
  /-- `SnapshotInconsistent` (R207, R231): raised by `execSnapImport` on a record that fails
  `Consistent`.  Safe: the spec refuses it (`notes/assumptions/5.md` for the bound on `npos`). -/
  | snapshotInconsistent
  /-- `CfgIllFormed` (R256, R231): raised by `execCreate`.  Safe: the spec refuses it. -/
  | cfgIllFormed
  deriving DecidableEq, Repr

/-- What the block hands out: an event or the value an operation returns. -/
inductive Output where
  /-- `Notify(start, count)`, emitted by every `ADVANCE` (R204). -/
  | notify (start count : Nat)
  /-- The pairs `CONSUME` returns (R203). -/
  | pairs (taken : List StereoPair)
  /-- The flag `ACK_SHAPE` returns (R205). -/
  | shapeFlag (f : Bool)
  /-- The record `SNAP_EXPORT` returns (R206). -/
  | snapshot (σ : Snapshot)
  /-- The sample `NEXT_SAMPLE` returns (R170), when it is run as an operation of its own. -/
  | sample (out : Sample)
  deriving DecidableEq, Repr

/-- The state of one instance. -/
structure State where
  /-- `Cfg` (R6), fixed for the lifetime of the instance. -/
  cfg : Cfg
  /-- `EnvTab[16][96]` (R34). -/
  envTab : Vector (Vector Word3 96) 16
  /-- `DacTab[32768]` (R34). -/
  dacTab : Vector Sample 32768
  /-- `reg[0..13]` (R20, R21). -/
  reg : Vector Byte 14
  /-- `pos[v]` (R23). -/
  pos : Vector Phase 3
  /-- `step[v]` (R23). -/
  tstep : Vector Phase 3
  /-- `gateT[v]` (R23). -/
  gateT : Vector Mask16 3
  /-- `gateN[v]` (R23). -/
  gateN : Vector Mask16 3
  /-- `vol3` (R24). -/
  vol3 : Word3
  /-- `envMask3` (R24). -/
  envMask3 : Word3
  /-- `nstep` (R25). -/
  nstep : Phase
  /-- `npos` (R25). -/
  npos : Phase
  /-- `seed` (R25). -/
  seed : Lfsr
  /-- `nlev` (R25). -/
  nlev : Mask16
  /-- `estep` (R27). -/
  estep : Phase
  /-- `epos` (R27). -/
  epos : Phase
  /-- `shape` (R27). -/
  shape : BitVec 4
  /-- `shapeChanged` (R28). -/
  shapeChanged : Bool
  /-- `Ring[0 .. RING_CAPACITY-1]` (R30), slot 0 first. -/
  ring : List StereoPair
  /-- `wcur` (R30). -/
  wcur : Nat
  /-- `rcur` (R30). -/
  rcur : Nat
  /-- `pending` (R30). -/
  pending : Nat
  /-- `dcHist[0 .. DC_N-1]` (R31), slot 0 first. -/
  dcHist : List Sample
  /-- `dcIdx` (R31). -/
  dcIdx : Nat
  /-- `dcSum` (R31), unbounded. -/
  dcSum : Int
  /-- `lp1` (R32). -/
  lp1 : Sample
  /-- `lp2` (R32). -/
  lp2 : Sample
  /-- `cyc` (R33), unbounded. -/
  cyc : Nat
  /-- THE MODEL'S OWN: the commands issued and not yet taken, oldest first: one interleaving of the two agents
  (R58).  DESIGN CHOICE, `notes/assumptions/3.md`. -/
  inbox : List Command
  /-- THE MODEL'S OWN: what the block has handed out, oldest first.  DESIGN CHOICE, `notes/assumptions/4.md`. -/
  outbox : List Output
  /-- THE MODEL'S OWN: the number of free values read so far (`Config.envBeyondTable`).  DESIGN CHOICE,
  `notes/assumptions/6.md`. -/
  freeCtr : Nat
  deriving DecidableEq, Repr

/-- What a meaning answers. -/
abbrev Result := Host.Outcome State Fault Refusal

/-- The tone sentinel `0x80000000` (R13, R100). -/
def sentinel : Phase := 0x80000000

namespace State

/-- The state after reset of an instance with the given configuration and tables: the table of R37, with
nothing on the interface. -/
def afterReset (cfg : Cfg) (envTab : Vector (Vector Word3 96) 16) (dacTab : Vector Sample 32768) : State where
  cfg := cfg
  envTab := envTab
  dacTab := dacTab
  reg := #v[0, 0, 0, 0, 0, 0, 0, 0x3F, 0, 0, 0, 0, 0, 0]
  pos := #v[sentinel, sentinel, sentinel]
  tstep := #v[0, 0, 0]
  gateT := #v[0xFFFF, 0xFFFF, 0xFFFF]
  gateN := #v[0xFFFF, 0xFFFF, 0xFFFF]
  vol3 := 0
  envMask3 := 0
  nstep := 0
  npos := 0
  seed := BitVec.ofNat 17 cfg.lfsrSeed
  nlev := 0xFFFF
  estep := envStep cfg 0 0
  epos := 0
  shape := 0
  shapeChanged := false
  ring := List.replicate cfg.ringCapacity (0, 0)
  wcur := 0
  rcur := 0
  pending := 0
  dcHist := List.replicate cfg.dcN 0
  dcIdx := 0
  dcSum := 0
  lp1 := 0
  lp2 := 0
  cyc := 0
  inbox := []
  outbox := []
  freeCtr := 0

/-- The instance that `CREATE` makes of a configuration and the table its strategy needs (R256). -/
def created (cfg : Cfg) (src : DacSource) : State := afterReset cfg envTable (dacTable src cfg)

/-- The machine right after reset: the instance of the vector configuration, which `95_test_vectors.md` calls
the reset state.  DESIGN CHOICE, `notes/assumptions/1.md`: R6 leaves the configuration open, and the one here
is the spec's example. -/
def reset : State := created vectorCfg (.linear exampleVoiceDac)

end State

end Sys2Proof.Machine
end

