-- ==== Sys2Proof/Machine/Flags.lean ====
section
/-!
DEFINITION. The flags.  The block has one, `shapeChanged` (`10_state.md` R28, R36); no condition codes.
-/

namespace Sys2Proof.Machine

namespace State

/-- `shapeChanged <- 1` (R115). -/
def raiseShapeChanged (s : State) : State := { s with shapeChanged := true }

/-- `shapeChanged <- 0` (R205, R250). -/
def clearShapeChanged (s : State) : State := { s with shapeChanged := false }

end State

end Sys2Proof.Machine
end

