-- ==== Sys2Proof/Machine/Ops.lean ====
section
/-!
DEFINITION. The named operations over the four indexed stores of `20_memory.md` R50 and over the interface.  The
block has no byte-addressed memory, no exception to take and none to return from (R50, R230, R235, R236).
-/

namespace Sys2Proof.Machine

namespace State

/-- `reg[r] <- d & MASK[r]` (R117). -/
def putReg (r : Fin 14) (d : Byte) (s : State) : State :=
  { s with reg := s.reg.set r (d &&& regMask[r]) }

/-- The entry index `epos >> ENV_FRAC_BITS` (R27, R133). -/
def envIndex (s : State) : Nat := (s.epos >>> s.cfg.envFracBits).toNat

/-- The read of `EnvTab[shape][k]` (R133): the entry and the state after it.  Past the last entry the spec
specifies nothing (R52), and the word is a free value (`notes/assumptions/6.md`). -/
def readEnv (k : Nat) (s : State) : Word3 × State :=
  if h : k < 96 then ((s.envTab[s.shape.toNat]'s.shape.isLt)[k], s)
  else (Config.envBeyondTable s.freeCtr, { s with freeCtr := s.freeCtr + 1 })

/-- `DacTab[i]` (R175). -/
def readDac (i : Word3) (s : State) : Sample := s.dacTab[i.toNat]'i.isLt

/-- The pair in ring slot `j` (R203); the value past the last slot is never read (`notes/assumptions/11.md`). -/
def ringAt (j : Nat) (s : State) : StereoPair := s.ring.getD j (0, 0)

/-- `Ring[j] <- p` (R10, R200). -/
def ringPut (j : Nat) (p : StereoPair) (s : State) : State := { s with ring := s.ring.set j p }

/-- The `k` pairs from the read cursor on, oldest first (R203). -/
def ringPairs (k : Nat) (s : State) : List StereoPair :=
  (List.range k).map fun j => s.ringAt ((s.rcur + j) % s.cfg.ringCapacity)

/-- The sample in slot `j` of the DC history (R192); the value past the last slot is never read
(`notes/assumptions/11.md`). -/
def dcAt (j : Nat) (s : State) : Sample := s.dcHist.getD j 0

/-- The block hands out an event or a returned value. -/
def emit (e : Output) (s : State) : State := { s with outbox := s.outbox ++ [e] }

end State

end Sys2Proof.Machine
end

