-- ==== Sys2Proof/Machine/RegWrite.lean ====
section
/-!
DEFINITION. The `WRITE` operations (`40_register_interface.md` R100 to R117).
-/

namespace Sys2Proof.Machine

/-- `ToneUpdate(v)` (R100): the step of the voice from its register pair, and the sentinel when it is 0. -/
def toneUpdate (v : Fin 3) (s : State) : State :=
  let st := toneStep s.cfg s.reg[2 * v.val + 1] s.reg[2 * v.val]
  { s with tstep := s.tstep.set v st, pos := if st = 0 then s.pos.set v sentinel else s.pos }

/-- The noise update of R107: the step, and the pinned phase and level when it is 0. -/
def noiseUpdate (s : State) : State :=
  let st := noiseStep s.cfg s.reg[6]
  { s with nstep := st, npos := if st = 0 then 0 else s.npos, nlev := if st = 0 then 0xFFFF else s.nlev }

/-- The gates that register 7 gives (R108, R207). -/
def gatesUpdate (s : State) : State :=
  { s with
    gateT := #v[toneGate s.reg[7] 0, toneGate s.reg[7] 1, toneGate s.reg[7] 2]
    gateN := #v[noiseGate s.reg[7] 0, noiseGate s.reg[7] 1, noiseGate s.reg[7] 2] }

/-- `envMask3` after `AmpUpdate(v)` (R109): the voice's field set in envelope mode, cleared in fixed mode. -/
def ampEnvWord (v : Fin 3) (amp : Byte) (w : Word3) : Word3 :=
  if envMode amp then w ||| voiceMask v else w &&& ~~~voiceMask v

/-- `vol3` after `AmpUpdate(v)` (R109): the voice's field cleared, then in fixed mode its expanded volume. -/
def ampVolWord (v : Fin 3) (amp : Byte) (w : Word3) : Word3 :=
  if envMode amp then w &&& ~~~voiceMask v
  else (w &&& ~~~voiceMask v) ||| levelAt v (vol4to5 (fixedVolume amp))

/-- `AmpUpdate(v)` (R109): the voice's fields of the two three-voice words. -/
def ampUpdate (v : Fin 3) (s : State) : State :=
  { s with
    envMask3 := ampEnvWord v s.reg[8 + v.val] s.envMask3
    vol3 := ampVolWord v s.reg[8 + v.val] s.vol3 }

/-- The envelope step update of R113 and R114. -/
def envUpdate (s : State) : State := { s with estep := envStep s.cfg s.reg[12] s.reg[11] }

/-- The shape selection of R115. -/
def shapeUpdate (s : State) : State :=
  { s with shape := s.reg[13].extractLsb' 0 4, epos := 0 }.raiseShapeChanged

/-- The effect of `WRITE 0, d` (R117, then R101). -/
def writeR0 (d : Byte) (s : State) : State := toneUpdate 0 (s.putReg 0 d)

/-- The effect of `WRITE 1, d` (R117, then R102). -/
def writeR1 (d : Byte) (s : State) : State := toneUpdate 0 (s.putReg 1 d)

/-- The effect of `WRITE 2, d` (R117, then R103). -/
def writeR2 (d : Byte) (s : State) : State := toneUpdate 1 (s.putReg 2 d)

/-- The effect of `WRITE 3, d` (R117, then R104). -/
def writeR3 (d : Byte) (s : State) : State := toneUpdate 1 (s.putReg 3 d)

/-- The effect of `WRITE 4, d` (R117, then R105). -/
def writeR4 (d : Byte) (s : State) : State := toneUpdate 2 (s.putReg 4 d)

/-- The effect of `WRITE 5, d` (R117, then R106). -/
def writeR5 (d : Byte) (s : State) : State := toneUpdate 2 (s.putReg 5 d)

/-- The effect of `WRITE 6, d` (R117, then R107). -/
def writeR6 (d : Byte) (s : State) : State := noiseUpdate (s.putReg 6 d)

/-- The effect of `WRITE 7, d` (R117, then R108). -/
def writeR7 (d : Byte) (s : State) : State := gatesUpdate (s.putReg 7 d)

/-- The effect of `WRITE 8, d` (R117, then R110). -/
def writeR8 (d : Byte) (s : State) : State := ampUpdate 0 (s.putReg 8 d)

/-- The effect of `WRITE 9, d` (R117, then R111). -/
def writeR9 (d : Byte) (s : State) : State := ampUpdate 1 (s.putReg 9 d)

/-- The effect of `WRITE 10, d` (R117, then R112). -/
def writeR10 (d : Byte) (s : State) : State := ampUpdate 2 (s.putReg 10 d)

/-- The effect of `WRITE 11, d` (R117, then R113). -/
def writeR11 (d : Byte) (s : State) : State := envUpdate (s.putReg 11 d)

/-- The effect of `WRITE 12, d` (R117, then R114). -/
def writeR12 (d : Byte) (s : State) : State := envUpdate (s.putReg 12 d)

/-- The effect of `WRITE 13, d` (R117, then R115). -/
def writeR13 (d : Byte) (s : State) : State := shapeUpdate (s.putReg 13 d)

/-- `WRITE 0, d` (R101). -/
def execWriteR0 (d : Byte) (s : State) : Result := .next (writeR0 d s)

/-- `WRITE 1, d` (R102). -/
def execWriteR1 (d : Byte) (s : State) : Result := .next (writeR1 d s)

/-- `WRITE 2, d` (R103). -/
def execWriteR2 (d : Byte) (s : State) : Result := .next (writeR2 d s)

/-- `WRITE 3, d` (R104). -/
def execWriteR3 (d : Byte) (s : State) : Result := .next (writeR3 d s)

/-- `WRITE 4, d` (R105). -/
def execWriteR4 (d : Byte) (s : State) : Result := .next (writeR4 d s)

/-- `WRITE 5, d` (R106). -/
def execWriteR5 (d : Byte) (s : State) : Result := .next (writeR5 d s)

/-- `WRITE 6, d` (R107). -/
def execWriteR6 (d : Byte) (s : State) : Result := .next (writeR6 d s)

/-- `WRITE 7, d` (R108). -/
def execWriteR7 (d : Byte) (s : State) : Result := .next (writeR7 d s)

/-- `WRITE 8, d` (R110). -/
def execWriteR8 (d : Byte) (s : State) : Result := .next (writeR8 d s)

/-- `WRITE 9, d` (R111). -/
def execWriteR9 (d : Byte) (s : State) : Result := .next (writeR9 d s)

/-- `WRITE 10, d` (R112). -/
def execWriteR10 (d : Byte) (s : State) : Result := .next (writeR10 d s)

/-- `WRITE 11, d` (R113). -/
def execWriteR11 (d : Byte) (s : State) : Result := .next (writeR11 d s)

/-- `WRITE 12, d` (R114). -/
def execWriteR12 (d : Byte) (s : State) : Result := .next (writeR12 d s)

/-- `WRITE 13, d` (R115). -/
def execWriteR13 (d : Byte) (s : State) : Result := .next (writeR13 d s)

/-- `WRITE 14, d` (R116): "no state changes"; the data byte is ignored. -/
def execWriteR14 (_d : Byte) (s : State) : Result := .next s

/-- `WRITE 15, d` (R116): "no state changes"; the data byte is ignored. -/
def execWriteR15 (_d : Byte) (s : State) : Result := .next s

end Sys2Proof.Machine
end

