-- ==== Sys2Proof/Machine/Reserved.lean ====
section
/-!
DEFINITION. The reserved command words (`30_encoding.md` R76): each row of the opcode table that the spec refuses.
-/

namespace Sys2Proof.Machine

/-- A class `0x1` word with nonzero low bits: "The model refuses the word (`refuse ReservedOperandBits`)"
(R76). -/
def execReservedOperand1 (_low : BitVec 12) (_s : State) : Result := .refused .reservedOperandBits

/-- A class `0x2` word with nonzero low bits: "The model refuses the word (`refuse ReservedOperandBits`)"
(R76). -/
def execReservedOperand2 (_low : BitVec 12) (_s : State) : Result := .refused .reservedOperandBits

/-- A class `0x3` word with nonzero low bits: "The model refuses the word (`refuse ReservedOperandBits`)"
(R76). -/
def execReservedOperand3 (_low : BitVec 12) (_s : State) : Result := .refused .reservedOperandBits

/-- A class `0x4` word with nonzero low bits: "The model refuses the word (`refuse ReservedOperandBits`)"
(R76). -/
def execReservedOperand4 (_low : BitVec 12) (_s : State) : Result := .refused .reservedOperandBits

/-- A class `0x5` word with nonzero low bits: "The model refuses the word (`refuse ReservedOperandBits`)"
(R76). -/
def execReservedOperand5 (_low : BitVec 12) (_s : State) : Result := .refused .reservedOperandBits

/-- A class `0x6` word with nonzero low bits: "The model refuses the word (`refuse ReservedOperandBits`)"
(R76). -/
def execReservedOperand6 (_low : BitVec 12) (_s : State) : Result := .refused .reservedOperandBits

/-- A class `0x7` word: "reserved. The model refuses the word (`refuse ReservedOp`)" (R76). -/
def execReserved7 (_low : BitVec 12) (_s : State) : Result := .refused .reservedOp

/-- A class `0x8` word: "reserved. The model refuses the word (`refuse ReservedOp`)" (R76). -/
def execReserved8 (_low : BitVec 12) (_s : State) : Result := .refused .reservedOp

/-- A class `0x9` word: "reserved. The model refuses the word (`refuse ReservedOp`)" (R76). -/
def execReserved9 (_low : BitVec 12) (_s : State) : Result := .refused .reservedOp

/-- A class `0xA` word: "reserved. The model refuses the word (`refuse ReservedOp`)" (R76). -/
def execReservedA (_low : BitVec 12) (_s : State) : Result := .refused .reservedOp

/-- A class `0xB` word: "reserved. The model refuses the word (`refuse ReservedOp`)" (R76). -/
def execReservedB (_low : BitVec 12) (_s : State) : Result := .refused .reservedOp

/-- A class `0xC` word: "reserved. The model refuses the word (`refuse ReservedOp`)" (R76). -/
def execReservedC (_low : BitVec 12) (_s : State) : Result := .refused .reservedOp

/-- A class `0xD` word: "reserved. The model refuses the word (`refuse ReservedOp`)" (R76). -/
def execReservedD (_low : BitVec 12) (_s : State) : Result := .refused .reservedOp

/-- A class `0xE` word: "reserved. The model refuses the word (`refuse ReservedOp`)" (R76). -/
def execReservedE (_low : BitVec 12) (_s : State) : Result := .refused .reservedOp

/-- A class `0xF` word: "reserved. The model refuses the word (`refuse ReservedOp`)" (R76). -/
def execReservedF (_low : BitVec 12) (_s : State) : Result := .refused .reservedOp

end Sys2Proof.Machine
end

