-- ==== Sys2Proof/Machine/Reset.lean ====
section
/-!
DEFINITION. `RESET` and `CREATE` (`70_reset_and_hazards.md` R250, R256).
-/

namespace Sys2Proof.Machine

/-- The loop of R250: every register written through its `WRITE` rule, 0 but for the mixer's `0xFF`. -/
def resetRegisters (s : State) : State :=
  s |> writeR0 0x00 |> writeR1 0x00 |> writeR2 0x00 |> writeR3 0x00 |> writeR4 0x00 |> writeR5 0x00
    |> writeR6 0x00 |> writeR7 0xFF |> writeR8 0x00 |> writeR9 0x00 |> writeR10 0x00 |> writeR11 0x00
    |> writeR12 0x00 |> writeR13 0x00

/-- The generator assignments of R250 after the loop. -/
def resetGenerators (s : State) : State :=
  { s with seed := BitVec.ofNat 17 s.cfg.lfsrSeed, epos := 0, shape := 0 }.clearShapeChanged

/-- The output path assignments of R250. -/
def resetOutputPath (s : State) : State :=
  { s with
    ring := List.replicate s.cfg.ringCapacity (0, 0)
    wcur := 0
    rcur := 0
    pending := 0
    dcHist := List.replicate s.cfg.dcN 0
    dcIdx := 0
    dcSum := 0
    lp1 := 0
    lp2 := 0
    cyc := 0 }

/-- The effect of `RESET` (R250). -/
def resetState (s : State) : State := resetOutputPath (resetGenerators (resetRegisters s))

/-- `RESET` (R250). -/
def execReset (s : State) : Result := .next (resetState s)

/-- `CREATE cfg` (R256): the checks, the two tables, then `RESET`.  The new instance takes the place of the
state's (DESIGN CHOICE, `notes/assumptions/7.md`). -/
def execCreate (cfg : Cfg) (s : State) : Result :=
  match dacSource cfg with
  | none => .refused .cfgIllFormed
  | some src =>
    if CfgNumbersOk cfg then
      .next (resetState { s with cfg := cfg, envTab := envTable, dacTab := dacTable src cfg })
    else .refused .cfgIllFormed

end Sys2Proof.Machine
end

