-- ==== Sys2Proof/Machine/Envelope.lean ====
section
/-!
DEFINITION. The envelope generator (`42_envelope.md` R133, R134).
-/

namespace Sys2Proof.Machine

/-- The envelope read (R133): `envVol`, and the state after the read. -/
def envRead (s : State) : Word3 × State :=
  let r := s.readEnv s.envIndex
  (r.1 &&& s.envMask3, r.2)

/-- The position after one advance (R134): the 32-bit sum, taken back by two blocks past the last entry. -/
def envWrapped (cfg : Cfg) (e : Phase) : Phase :=
  if Config.envEntries <<< cfg.envFracBits ≤ e.toNat then e - trunc32 (Config.envLoopEntries <<< cfg.envFracBits)
  else e

/-- The envelope advance (R134). -/
def envAdvance (s : State) : State := { s with epos := envWrapped s.cfg (s.epos + s.estep) }

end Sys2Proof.Machine
end

