-- ==== Sys2Proof/Machine/Filter.lean ====
section
/-!
DEFINITION. The DC adjuster and the low-pass filter (`46_dc_lowpass.md` R190 to R193).
-/

namespace Sys2Proof.Machine

/-- The DC estimate `tdiv(dcSum, DC_N)` (R190). -/
def dcEstimate (s : State) : Int := s.dcSum.tdiv s.cfg.dcN

/-- The filter input `x0` (R191). -/
def filterInput (raw : Sample) (s : State) : Sample := wrap16 (raw.toInt - dcEstimate s)

/-- The filter output for the input `x0` (R191); the shifts are arithmetic. -/
def filterOutput (x0 : Sample) (s : State) : Int := (s.lp2.toInt >>> 2) + (s.lp1.toInt >>> 1) + (x0.toInt >>> 2)

/-- The history update (R192). -/
def dcUpdate (raw : Sample) (s : State) : State :=
  { s with
    dcSum := s.dcSum - (s.dcAt s.dcIdx).toInt + raw.toInt
    dcHist := s.dcHist.set s.dcIdx raw
    dcIdx := (s.dcIdx + 1) % s.cfg.dcN }

/-- `PostProcess(raw)` (R190 to R193): the output and the state after it. -/
def postProcess (raw : Sample) (s : State) : Sample × State :=
  if s.cfg.lpfEnable then
    (wrap16 (filterOutput (filterInput raw s) s),
      dcUpdate raw { s with lp2 := s.lp1, lp1 := filterInput raw s })
  else (raw, s)

end Sys2Proof.Machine
end

