-- ==== Sys2Proof/Machine/Noise.lean ====
section
/-!
DEFINITION. The noise generator (`43_noise.md` R140 to R142).
-/

namespace Sys2Proof.Machine

/-- The feedback bit of `rnd()` (R140). -/
def feedbackBit (cfg : Cfg) (seed : Lfsr) : Lfsr :=
  ((seed >>> cfg.lfsrTapA) ^^^ (seed >>> cfg.lfsrTapB)) &&& 1

/-- The seed after `rnd()` (R140): shifted right, the feedback bit on top. -/
def nextSeed (cfg : Cfg) (seed : Lfsr) : Lfsr :=
  (seed >>> 1) ||| (feedbackBit cfg seed <<< (Config.lfsrWidth - 1))

/-- The mask `rnd()` returns (R140). -/
def toggleMask (cfg : Cfg) (seed : Lfsr) : Mask16 := if feedbackBit cfg seed = 1 then 0x0000 else 0xFFFF

/-- `2^NOISE_FRAC_BITS - 1`, the fraction of the noise position (R141; R170 writes the default's `0xFFFF`, DEDUCED,
`notes/assumptions/9.md`). -/
def noiseFraction (cfg : Cfg) : Phase := trunc32 (2 ^ cfg.noiseFracBits - 1)

/-- The noise tick at the start of a sample (R141). -/
def noiseTick (s : State) : State :=
  if s.npos &&& ~~~noiseFraction s.cfg = 0 then s
  else
    { s with
      nlev := s.nlev ^^^ toggleMask s.cfg s.seed
      seed := nextSeed s.cfg s.seed
      npos := s.npos &&& noiseFraction s.cfg }

/-- The noise phase advance (R142). -/
def noiseAdvance (s : State) : State := { s with npos := s.npos + s.nstep }

end Sys2Proof.Machine
end

