-- ==== Sys2Proof/Machine/Synth.lean ====
section
/-!
DEFINITION. The sample synthesizer `NEXT_SAMPLE` (`45_sample_synthesizer.md` R170 to R177).
-/

namespace Sys2Proof.Machine

/-- The tone level of voice `v` (R173): the sign bit of its position, as a mask. -/
def toneLevel (v : Fin 3) (s : State) : Mask16 := if s.pos[v].getLsbD 31 then 0xFFFF else 0x0000

/-- The mixer term `a[v]` (R173). -/
def mixerTerm (v : Fin 3) (s : State) : Mask16 := (toneLevel v s ||| s.gateT[v]) &&& (s.nlev ||| s.gateN[v])

/-- The voice's field of `act` (R173). -/
def activeField (v : Fin 3) (s : State) : Word3 := (mixerTerm v s).setWidth 15 &&& voiceMask v

/-- `act` (R173). -/
def activeMask (s : State) : Word3 := activeField 0 s ||| activeField 1 s ||| activeField 2 s

/-- The effective combined volume index (R174). -/
def volumeIndex (envVol : Word3) (s : State) : Word3 := activeMask s &&& (envVol ||| s.vol3)

/-- The tone advance of step 6 (R176). -/
def toneAdvance (s : State) : State :=
  { s with pos := #v[s.pos[0] + s.tstep[0], s.pos[1] + s.tstep[1], s.pos[2] + s.tstep[2]] }

/-- Step 6 (R176): all accumulators. -/
def advancePhases (s : State) : State := envAdvance (noiseAdvance (toneAdvance s))

/-- Steps 1 to 5 (R170): the DAC index of the sample, and the state after them. -/
def sampleIndex (s : State) : Word3 × State :=
  let s1 := noiseTick s
  let e := envRead s1
  (volumeIndex e.1 e.2, e.2)

/-- `NEXT_SAMPLE()` (R170): the sample, and the state after it. -/
def nextSample (s : State) : Sample × State :=
  let i := sampleIndex s
  postProcess (i.2.readDac i.1) (advancePhases i.2)

/-- `NEXT_SAMPLE` run by itself: its returned sample is handed out (`notes/assumptions/4.md`). -/
def execNextSample (s : State) : Result := .next ((nextSample s).2.emit (.sample (nextSample s).1))

end Sys2Proof.Machine
end

