-- ==== Sys2Proof/Machine/Scheduler.lean ====
section
/-!
DEFINITION. The frame scheduler, the consumer's side of the ring and the flag acknowledge (`47_scheduler_host.md`
R200 to R205).
-/

namespace Sys2Proof.Machine

/-- The samples due for `cyc` cycles, at most one frame's worth (R200). -/
def samplesDue (cfg : Cfg) (cyc : Nat) : Nat :=
  min (cyc * samplesPerFrame cfg / cfg.cyclesPerFrame) (samplesPerFrame cfg)

/-- The cycles left after `n` samples are paid for (R200). -/
def cyclesLeft (cfg : Cfg) (cyc n : Nat) : Nat := cyc - n * cfg.cyclesPerFrame / samplesPerFrame cfg

/-- The loop of R200: `n` samples into the ring, from slot `j` on. -/
def runSamples : Nat → Nat → State → State
  | 0, _, s => s
  | n + 1, j, s =>
    let o := nextSample s
    runSamples n (j + 1) (o.2.ringPut (j % s.cfg.ringCapacity) (o.1, o.1))

/-- The samples one `ADVANCE cycles` generates (R200): those due, no more than the ring has room for. -/
def samplesGenerated (cycles : Nat) (s : State) : Nat :=
  min (samplesDue s.cfg (s.cyc + cycles)) (s.cfg.ringCapacity - s.pending)

/-- `ADVANCE cycles` (R200). -/
def execAdvance (cycles : Nat) (s : State) : Result :=
  let cyc := s.cyc + cycles
  let n := samplesGenerated cycles s
  let s1 := runSamples n s.wcur { s with cyc := cyclesLeft s.cfg cyc (samplesDue s.cfg cyc) }
  .next ({ s1 with wcur := (s.wcur + n) % s.cfg.ringCapacity, pending := s.pending + n }.emit (.notify s.wcur n))

/-- `CONSUME k` (R203). -/
def execConsume (k : Nat) (s : State) : Result :=
  if s.pending < k then .refused .consumeTooMany
  else
    .next ({ s with rcur := (s.rcur + k) % s.cfg.ringCapacity, pending := s.pending - k }.emit
      (.pairs (s.ringPairs k)))

/-- `ACK_SHAPE` (R205). -/
def execAckShape (s : State) : Result := .next (s.clearShapeChanged.emit (.shapeFlag s.shapeChanged))

end Sys2Proof.Machine
end

