-- ==== Sys2Proof/Machine/Snapshots.lean ====
section
/-!
DEFINITION. Snapshot export and import (`47_scheduler_host.md` R206, R207).
-/

namespace Sys2Proof.Machine

/-- The record `SNAP_EXPORT` copies from the state (R206). -/
def snapshotOf (s : State) : Snapshot where
  reg := s.reg.map BitVec.toNat
  pos := s.pos.map BitVec.toNat
  tstep := s.tstep.map BitVec.toNat
  npos := s.npos.toNat
  nstep := s.nstep.toNat
  seed := s.seed.toNat
  nlev := s.nlev.toNat
  epos := s.epos.toNat
  estep := s.estep.toNat
  shape := s.shape.toNat
  vol3 := s.vol3.toNat
  envMask3 := s.envMask3.toNat

/-- `SNAP_EXPORT` (R206). -/
def execSnapExport (s : State) : Result := .next (s.emit (.snapshot (snapshotOf s)))

/-- The field of voice `v` of `envMask3` that register `8 + v` gives (R29). -/
def envFieldOf (v : Fin 3) (amp : Byte) : Word3 := if envMode amp then voiceMask v else 0

/-- The field of voice `v` of `vol3` that register `8 + v` gives (R29). -/
def volFieldOf (v : Fin 3) (amp : Byte) : Word3 :=
  if envMode amp then 0 else levelAt v (vol4to5 (fixedVolume amp))

/-- The `envMask3` a register file gives (R29). -/
def envMaskOf (reg : Vector Byte 14) : Word3 :=
  envFieldOf 0 reg[8] ||| envFieldOf 1 reg[9] ||| envFieldOf 2 reg[10]

/-- The `vol3` a register file gives (R29). -/
def volWordOf (reg : Vector Byte 14) : Word3 :=
  volFieldOf 0 reg[8] ||| volFieldOf 1 reg[9] ||| volFieldOf 2 reg[10]

/-- `σ.reg[i] & ~MASK[i] = 0` for every `i` (R207), on the record's integers: the masked value is the value. -/
def regsMasked (σ : Snapshot) : Bool := decide (∀ i : Fin 14, σ.reg[i] &&& regMask[i].toNat = σ.reg[i])

/-- The record's registers as bytes; a masked record loses nothing by it. -/
def recordRegs (σ : Snapshot) : Vector Byte 14 := σ.reg.map (BitVec.ofNat 8)

/-- The equalities of R29 on the record, under the current `Cfg` (R207). -/
def derivedAgree (cfg : Cfg) (σ : Snapshot) : Bool :=
  let reg := recordRegs σ
  decide (∀ v : Fin 3, σ.tstep[v] = (toneStep cfg reg[2 * v.val + 1] reg[2 * v.val]).toNat) &&
  decide (σ.nstep = (noiseStep cfg reg[6]).toNat) &&
  decide (σ.estep = (envStep cfg reg[12] reg[11]).toNat) &&
  decide (σ.vol3 = (volWordOf reg).toNat) &&
  decide (σ.envMask3 = (envMaskOf reg).toNat) &&
  decide (σ.shape = reg[13].toNat)

/-- The two implications of R29 on the record (R207). -/
def pinnedAgree (σ : Snapshot) : Bool :=
  decide (∀ v : Fin 3, σ.tstep[v] = 0 → σ.pos[v] = 0x80000000) &&
  decide (σ.nstep = 0 → σ.npos = 0 ∧ σ.nlev = 0xFFFF)

/-- The ranges R207 asks of the record, its bound on `npos` taken as written (`notes/assumptions/5.md`). -/
def rangesOk (cfg : Cfg) (σ : Snapshot) : Bool :=
  decide (∀ v : Fin 3, σ.pos[v] < 2 ^ 32) && decide (σ.npos ≤ 0xFFFF) &&
  decide (σ.epos < 2 ^ 32) && decide (σ.epos < Config.envEntries <<< cfg.envFracBits) &&
  decide (1 ≤ σ.seed) && decide (σ.seed ≤ 2 ^ 17 - 1) && decide (σ.nlev = 0x0000 ∨ σ.nlev = 0xFFFF)

/-- `Consistent(σ)` (R207). -/
def consistent (cfg : Cfg) (σ : Snapshot) : Bool :=
  rangesOk cfg σ && regsMasked σ && pinnedAgree σ && derivedAgree cfg σ

/-- The fields `SNAP_IMPORT` takes from the record (R207). -/
def importFields (σ : Snapshot) (s : State) : State :=
  { s with
    reg := recordRegs σ
    pos := σ.pos.map (BitVec.ofNat 32)
    tstep := σ.tstep.map (BitVec.ofNat 32)
    npos := BitVec.ofNat 32 σ.npos
    nstep := BitVec.ofNat 32 σ.nstep
    seed := BitVec.ofNat 17 σ.seed
    nlev := BitVec.ofNat 16 σ.nlev
    epos := BitVec.ofNat 32 σ.epos
    estep := BitVec.ofNat 32 σ.estep
    shape := BitVec.ofNat 4 σ.shape
    vol3 := BitVec.ofNat 15 σ.vol3
    envMask3 := BitVec.ofNat 15 σ.envMask3 }

/-- `SNAP_IMPORT σ` (R207). -/
def execSnapImport (σ : Snapshot) (s : State) : Result :=
  if consistent s.cfg σ then .next (gatesUpdate (importFields σ s)) else .refused .snapshotInconsistent

end Sys2Proof.Machine
end

