-- ==== Sys2Proof/Machine/Dispatch.lean ====
section
/-!
DEFINITION. The dispatch: one arm per row of the opcode table.
-/

namespace Sys2Proof.Machine

def exec (i : Instr) (s : State) : Host.Outcome State Fault Refusal :=
  match i with
  | .writeR0 d => Sys2Proof.Machine.execWriteR0 d s
  | .writeR1 d => Sys2Proof.Machine.execWriteR1 d s
  | .writeR2 d => Sys2Proof.Machine.execWriteR2 d s
  | .writeR3 d => Sys2Proof.Machine.execWriteR3 d s
  | .writeR4 d => Sys2Proof.Machine.execWriteR4 d s
  | .writeR5 d => Sys2Proof.Machine.execWriteR5 d s
  | .writeR6 d => Sys2Proof.Machine.execWriteR6 d s
  | .writeR7 d => Sys2Proof.Machine.execWriteR7 d s
  | .writeR8 d => Sys2Proof.Machine.execWriteR8 d s
  | .writeR9 d => Sys2Proof.Machine.execWriteR9 d s
  | .writeR10 d => Sys2Proof.Machine.execWriteR10 d s
  | .writeR11 d => Sys2Proof.Machine.execWriteR11 d s
  | .writeR12 d => Sys2Proof.Machine.execWriteR12 d s
  | .writeR13 d => Sys2Proof.Machine.execWriteR13 d s
  | .writeR14 d => Sys2Proof.Machine.execWriteR14 d s
  | .writeR15 d => Sys2Proof.Machine.execWriteR15 d s
  | .reset => Sys2Proof.Machine.execReset s
  | .advance cycles => Sys2Proof.Machine.execAdvance cycles s
  | .consume k => Sys2Proof.Machine.execConsume k s
  | .ackShape => Sys2Proof.Machine.execAckShape s
  | .snapExport => Sys2Proof.Machine.execSnapExport s
  | .snapImport record => Sys2Proof.Machine.execSnapImport record s
  | .reservedOperand1 low => Sys2Proof.Machine.execReservedOperand1 low s
  | .reservedOperand2 low => Sys2Proof.Machine.execReservedOperand2 low s
  | .reservedOperand3 low => Sys2Proof.Machine.execReservedOperand3 low s
  | .reservedOperand4 low => Sys2Proof.Machine.execReservedOperand4 low s
  | .reservedOperand5 low => Sys2Proof.Machine.execReservedOperand5 low s
  | .reservedOperand6 low => Sys2Proof.Machine.execReservedOperand6 low s
  | .reserved7 low => Sys2Proof.Machine.execReserved7 low s
  | .reserved8 low => Sys2Proof.Machine.execReserved8 low s
  | .reserved9 low => Sys2Proof.Machine.execReserved9 low s
  | .reservedA low => Sys2Proof.Machine.execReservedA low s
  | .reservedB low => Sys2Proof.Machine.execReservedB low s
  | .reservedC low => Sys2Proof.Machine.execReservedC low s
  | .reservedD low => Sys2Proof.Machine.execReservedD low s
  | .reservedE low => Sys2Proof.Machine.execReservedE low s
  | .reservedF low => Sys2Proof.Machine.execReservedF low s
  | .nextSample => Sys2Proof.Machine.execNextSample s
  | .create cfg => Sys2Proof.Machine.execCreate cfg s

end Sys2Proof.Machine
end

