-- ==== Sys2Proof/Machine/Step.lean ====
section
/-!
DEFINITION. One step: the block takes the oldest command of its interface and runs it as one atomic transition
(`20_memory.md` R55, R58).
-/

namespace Sys2Proof.Machine

/-- One operation (R55).  With nothing issued the block is idle and keeps its state (R243).  DESIGN CHOICE,
`notes/assumptions/3.md`: the commands stand in `inbox`. -/
def step (s : State) : Host.Outcome State Fault Refusal :=
  match s.inbox with
  | [] => .next s
  | c :: rest => exec (decode c) { s with inbox := rest }

/-- The state in which the word `w` of an opcode-table row of `nbits` bits is the next command, its side operand
all zeros. -/
def State.withFetchWord (s : State) (nbits w : Nat) : State :=
  { s with inbox := .ofWord (BitVec.ofNat 16 (w % 2 ^ nbits)) :: s.inbox }

end Sys2Proof.Machine
end

