-- ==== Sys2Proof/Machine/Pseudo.lean ====
section
/-!
DEFINITION. The pseudo-operations of the spec's assembler and their expansions (`30_encoding.md` R77).
-/

namespace Sys2Proof.Machine

/-- The pseudo-operations of R77.  DESIGN CHOICE, `notes/assumptions/16.md`: R77 gives no width for the operands of
`SETNOISE`, `SETMIX` and `SETSHAPE`, and they are numbers of any size here, of which the expansion takes the low
bits. -/
inductive Pseudo where
  | setTone (v : Fin 3) (p : BitVec 12)
  | setNoise (p : Nat)
  | setMix (m : Nat)
  | setVol (v : Fin 3) (l : BitVec 4)
  | setEnvMode (v : Fin 3)
  | setEnv (p : BitVec 16)
  | setShape (s : Nat)
  deriving DecidableEq, Repr

/-- `WRITE r, d` for a register index below 16. -/
def writeOp (r : Nat) (d : Byte) : Instr := .write (BitVec.ofNat 4 r) d

/-- The expansion of a pseudo-operation (R77): the fine register before the coarse one. -/
def expand : Pseudo → List Instr
  | .setTone v p => [writeOp (2 * v) (p.extractLsb' 0 8), writeOp (2 * v + 1) (p.extractLsb' 8 4 |>.setWidth 8)]
  | .setNoise p => [writeOp 6 ((BitVec.ofNat 5 p).setWidth 8)]
  | .setMix m => [writeOp 7 ((BitVec.ofNat 6 m).setWidth 8)]
  | .setVol v l => [writeOp (8 + v) (l.setWidth 8)]
  | .setEnvMode v => [writeOp (8 + v) 0x10]
  | .setEnv p => [writeOp 11 (p.extractLsb' 0 8), writeOp 12 (p.extractLsb' 8 8)]
  | .setShape s => [writeOp 13 ((BitVec.ofNat 4 s).setWidth 8)]

end Sys2Proof.Machine
end

