-- ==== Sys2Proof/Safety.lean ====
section
/-!
DEFINITION. The terms the claims are stated in: the invariants of the spec, runs of operations and of samples, the
ring read as a queue, and the spec's own second readings of what the machine computes.
-/

namespace Sys2Proof.Machine

/-! ### Invariants -/

/-- Every register holds no bit outside its mask (R20, R21). -/
def RegsMasked (s : State) : Prop := ∀ i : Fin 14, s.reg[i] &&& regMask[i] = s.reg[i]

/-- The derived-state invariant (R29). -/
structure Derived (s : State) : Prop where
  tstep : ∀ v : Fin 3, s.tstep[v] = toneStep s.cfg s.reg[2 * v.val + 1] s.reg[2 * v.val]
  nstep : s.nstep = noiseStep s.cfg s.reg[6]
  estep : s.estep = envStep s.cfg s.reg[12] s.reg[11]
  gateT : ∀ v : Fin 3, s.gateT[v] = if s.reg[7].getLsbD v then 0xFFFF else 0x0000
  gateN : ∀ v : Fin 3, s.gateN[v] = if s.reg[7].getLsbD (v + 3) then 0xFFFF else 0x0000
  envField : ∀ v : Fin 3, levelOf v s.envMask3 = if envMode s.reg[8 + v.val] then 31 else 0
  volField : ∀ v : Fin 3,
    levelOf v s.vol3 = if envMode s.reg[8 + v.val] then 0 else vol4to5 (fixedVolume s.reg[8 + v.val])
  shape : s.shape = s.reg[13].extractLsb' 0 4
  tonePinned : ∀ v : Fin 3, s.tstep[v] = 0 → s.pos[v] = 0x80000000
  noisePinned : s.nstep = 0 → s.npos = 0 ∧ s.nlev = 0xFFFF

/-- The noise generator's ranges (R25, R26). -/
def NoiseWf (s : State) : Prop := s.seed ≠ 0 ∧ (s.nlev = 0x0000 ∨ s.nlev = 0xFFFF)

/-- The envelope index stays inside the table (R27, R134); R134 derives it for `ENV_FRAC_BITS = 25`, and it holds
for every larger value as well. -/
def EnvWf (s : State) : Prop := 25 ≤ s.cfg.envFracBits → s.epos.toNat < 96 * 2 ^ s.cfg.envFracBits

/-- The ring buffer's invariant (R30): the cursors and the count in range, `rcur = (wcur - pending) mod
RING_CAPACITY`. -/
structure RingWf (s : State) : Prop where
  length : s.ring.length = s.cfg.ringCapacity
  wcur : s.wcur < s.cfg.ringCapacity
  rcur : s.rcur < s.cfg.ringCapacity
  pending : s.pending ≤ s.cfg.ringCapacity
  cursors : (s.rcur + s.pending) % s.cfg.ringCapacity = s.wcur

/-- The sum of the samples of a history. -/
def sampleSum (l : List Sample) : Int := (l.map BitVec.toInt).sum

/-- The DC adjuster's invariant (R31). -/
structure DcWf (s : State) : Prop where
  length : s.dcHist.length = s.cfg.dcN
  index : s.dcIdx < s.cfg.dcN
  sum : s.dcSum = sampleSum s.dcHist

/-- The tables are those `CREATE` built from the configuration (R34, R256). -/
def TablesBuilt (s : State) : Prop :=
  ∃ src, dacSource s.cfg = some src ∧ s.envTab = envTable ∧ s.dacTab = dacTable src s.cfg

/-- The invariant of an instance that `CREATE` made and only operations changed. -/
structure Inv (s : State) : Prop where
  cfg : CfgNumbersOk s.cfg
  tables : TablesBuilt s
  regs : RegsMasked s
  derived : Derived s
  noise : NoiseWf s
  env : EnvWf s
  ring : RingWf s
  dc : DcWf s

/-! ### Effects of the register writes, in plain arithmetic -/

/-- The quotient of R120 to R122, reduced to 32 bits. -/
def stepQuotient (cfg : Cfg) (shift period : Nat) : Nat :=
  cfg.chipClock * 2 ^ shift / (period * cfg.sampleRate) % 2 ^ 32

/-- What a write to a tone register of voice `v` leaves (R100 to R106): `k = 0` the fine register, `k = 1` the
coarse one. -/
def ToneWritten (v : Fin 3) (k : Fin 2) (d : Byte) (s t : State) : Prop :=
  t.reg = s.reg.set (2 * v.val + k.val) (d &&& if k = 0 then 0xFF else 0x0F) ∧
  (let tp := t.reg[2 * v.val + 1].toNat % 16 * 256 + t.reg[2 * v.val].toNat
   t.tstep[v].toNat = if tp ≤ 5 then 0 else stepQuotient s.cfg s.cfg.toneShift tp) ∧
  t.pos[v] = (if t.tstep[v] = 0 then 0x80000000 else s.pos[v]) ∧
  (∀ u : Fin 3, u ≠ v → t.tstep[u] = s.tstep[u] ∧ t.pos[u] = s.pos[u]) ∧
  t = { s with reg := t.reg, tstep := t.tstep, pos := t.pos }

/-- The 4-bit-to-5-bit expansion of R150 as a formula. -/
def expandedVolume (l : Nat) : Nat := if l = 0 then 0 else if l = 1 then 2 else 2 * l + 1

/-- What a write to the amplitude register of voice `v` leaves (R109 to R112). -/
def AmpWritten (v : Fin 3) (d : Byte) (s t : State) : Prop :=
  t.reg = s.reg.set (8 + v.val) (d &&& 0x1F) ∧
  (levelOf v t.envMask3).toNat = (if d.getLsbD 4 then 31 else 0) ∧
  (levelOf v t.vol3).toNat = (if d.getLsbD 4 then 0 else expandedVolume (d.toNat % 16)) ∧
  (∀ u : Fin 3, u ≠ v → levelOf u t.envMask3 = levelOf u s.envMask3 ∧ levelOf u t.vol3 = levelOf u s.vol3) ∧
  t = { s with reg := t.reg, envMask3 := t.envMask3, vol3 := t.vol3 }

/-- What a write to an envelope period register leaves (R113, R114); `r` is 11 or 12. -/
def EnvPeriodWritten (r : Fin 14) (d : Byte) (s t : State) : Prop :=
  t.reg = s.reg.set r d ∧
  (let ep := t.reg[12].toNat * 256 + t.reg[11].toNat
   t.estep.toNat =
     if ep = 0 then stepQuotient s.cfg s.cfg.envShift 1 / 2 else stepQuotient s.cfg s.cfg.envShift ep) ∧
  t = { s with reg := t.reg, estep := t.estep }

/-! ### Runs -/

/-- A list of operations, each from the state the one before left; it stops at the first refusal. -/
def execAll : List Instr → State → Result
  | [], s => .next s
  | i :: is, s =>
    match exec i s with
    | .next t => execAll is t
    | .fault f => .fault f
    | .refused r => .refused r

/-- The state after `n` samples. -/
def afterSamples : Nat → State → State
  | 0, s => s
  | n + 1, s => afterSamples n (nextSample s).2

/-- The first `n` samples from a state on. -/
def samplesFrom : Nat → State → List Sample
  | 0, _ => []
  | n + 1, s => (nextSample s).1 :: samplesFrom n (nextSample s).2

/-- The outputs of the output stage for the inputs `raws`, and the state after them (R190 to R193). -/
def filterRun : List Sample → State → List Sample × State
  | [], s => ([], s)
  | raw :: rest, s =>
    let o := postProcess raw s
    let r := filterRun rest o.2
    (o.1 :: r.1, r.2)

/-- The samples due over a run of `ADVANCE`s from a cycle count on, before the ring clamp (R201). -/
def dueOver (cfg : Cfg) : Nat → List Nat → Nat
  | _, [] => 0
  | cyc, x :: xs => samplesDue cfg (cyc + x) + dueOver cfg (cyclesLeft cfg (cyc + x) (samplesDue cfg (cyc + x))) xs

/-- The pairs of the ring that are written and not yet consumed, oldest first (R30). -/
def queued (s : State) : List StereoPair := s.ringPairs s.pending

/-! ### The spec's second readings -/

/-- The boolean mixer of R173's truth table: the voice is active. -/
def voiceActive (v : Fin 3) (s : State) : Bool :=
  (s.reg[7].getLsbD v || s.pos[v].getLsbD 31) && (s.reg[7].getLsbD (v + 3) || s.nlev == 0xFFFF)

/-- The level of a voice that is active (R133, R174): the envelope's or the fixed one, by the mode bit. -/
def voiceVolume (v : Fin 3) (s : State) : Nat :=
  if s.reg[8 + v.val].getLsbD 4 then envLevel s.shape.toNat (s.epos.toNat / 2 ^ s.cfg.envFracBits)
  else expandedVolume (s.reg[8 + v.val].toNat % 16)

/-- The volume index put together from the three voices by the boolean mixer (R151, R173, R174). -/
def booleanIndex (s : State) : Nat :=
  (if voiceActive 0 s then voiceVolume 0 s else 0) + (if voiceActive 1 s then voiceVolume 1 s else 0) * 32 +
  (if voiceActive 2 s then voiceVolume 2 s else 0) * 1024

/-- Level `k` of shape `s` by the four shape bits CONTINUE, ATTACK, ALTERNATE and HOLD, which produce the chart
(R132). -/
def bitsLevel (s : BitVec 4) (k : Nat) : Nat :=
  let up := fun b : Bool => if b then k % 32 else 31 - k % 32
  if k < 32 then up (s.getLsbD 2)
  else if !s.getLsbD 3 then 0
  else if s.getLsbD 0 then (if s.getLsbD 2 != s.getLsbD 1 then 31 else 0)
  else up (s.getLsbD 2 != (s.getLsbD 1 && k / 32 == 1))

/-- `AxisTerms(x)` with the weights of R152 as rationals. -/
def rationalTerms (x : Level) : List (BitVec 4 × ℚ) :=
  let i : BitVec 4 := x.extractLsb' 1 4
  if x.getLsbD 0 then [(i, 1)] else [(if i = 0 then 0 else i - 1, 2 / 5), (i, 3 / 5)]

/-- The sum of R152 in rational arithmetic. -/
def rationalBlend (m : MeasuredDac) (c b a : Level) : ℚ :=
  ((rationalTerms c).map fun tc =>
    ((rationalTerms b).map fun tb =>
      ((rationalTerms a).map fun ta => tc.2 * tb.2 * ta.2 * (measuredPoint m tc.1 tb.1 ta.1 : ℚ)).sum).sum).sum

/-- Everything a sample is formed from when the filter is off (R170): two states that agree here give the same
samples. -/
structure SameGenerators (s t : State) : Prop where
  cfg : s.cfg = t.cfg
  envTab : s.envTab = t.envTab
  dacTab : s.dacTab = t.dacTab
  pos : s.pos = t.pos
  tstep : s.tstep = t.tstep
  gateT : s.gateT = t.gateT
  gateN : s.gateN = t.gateN
  vol3 : s.vol3 = t.vol3
  envMask3 : s.envMask3 = t.envMask3
  nstep : s.nstep = t.nstep
  npos : s.npos = t.npos
  seed : s.seed = t.seed
  nlev : s.nlev = t.nlev
  estep : s.estep = t.estep
  epos : s.epos = t.epos
  shape : s.shape = t.shape

end Sys2Proof.Machine
end

