-- ==== Sys2Proof/Certificates/Slice0/Obligations.lean ====
section
/-!
DEFINITION. The statements for the provers.  Each docstring names the rule of the spec it formalises.
-/

open Sys2Proof Sys2Proof.Machine

/-! ### Encoding and the step -/

/-- Words of `95_test_vectors.md` 2.1 decode to the operations that table gives. -/
def Obligations.SpecWordsDecode : Prop :=
  decode (.ofWord 0x001C) = .writeR0 0x1C ∧ decode (.ofWord 0x01F3) = .writeR1 0xF3 ∧
  decode (.ofWord 0x073E) = .writeR7 0x3E ∧ decode (.ofWord 0x0D0A) = .writeR13 0x0A ∧
  decode (.ofWord 0x0EFF) = .writeR14 0xFF ∧ decode (.ofWord 0x1000) = .reset ∧
  decode ⟨0x2000, 160256, .zero⟩ = .advance 160256 ∧ decode ⟨0x3000, 882, .zero⟩ = .consume 882 ∧
  decode (.ofWord 0x4000) = .ackShape ∧ decode (.ofWord 0x5000) = .snapExport ∧
  (∀ σ, decode ⟨0x6000, 0, σ⟩ = .snapImport σ) ∧ decode (.ofWord 0x1001) = .reservedOperand1 0x001 ∧
  decode (.ofWord 0x7000) = .reserved7 0x000 ∧ decode (.ofWord 0xF123) = .reservedF 0x123

/-- R70, R71, R75: every well-formed operation that has a command word is read back from the command that
stands for it, side operand and all; the two internal operations have none. -/
def Obligations.DecodeOfEncodeIsTheOperation : Prop :=
  ∀ i : Instr,
    (i.wellFormed = true → i.hasWord = true → ∃ c, encode i = some c ∧ decode c = i) ∧
    (i.hasWord = false → encode i = none)

/-- R75: no bit of a word is dropped: the operation it decodes to is well-formed and encodes to that word. -/
def Obligations.EncodeOfDecodeIsTheWord : Prop :=
  ∀ w : CmdWord, (decode (.ofWord w)).wellFormed = true ∧ encode (decode (.ofWord w)) = some (.ofWord w)

/-- R75: "A word is decoded by the matching row of lowest priority number, and exactly one such row matches each of
the 65 536 words." -/
def Obligations.OneRowDecodesEachWord : Prop :=
  ∀ c : Command, ∃ row, decodingRows c.word = [row] ∧ row.mnemonic = (decode c).mnemonic

/-- THE MODEL'S CHOICE of how commands reach the block (`notes/assumptions/3.md`; `notes/assumptions/2.md` for a word
given alone): a step takes the oldest command of `inbox` and runs the operation it decodes to, an empty `inbox` keeps
the state, and `withFetchWord` places the next command.  What the choice serves is the order of R58, the atomicity of
R55 and the idle block of R243. -/
def Obligations.StepRunsTheOldestCommand : Prop :=
  ∀ s : State,
    (s.inbox = [] → step s = .next s) ∧
    (∀ c rest, s.inbox = c :: rest → step s = exec (decode c) { s with inbox := rest }) ∧
    (∀ w : CmdWord, step (s.withFetchWord 16 w.toNat) = exec (decode (.ofWord w)) s)

/-- R76, whole: a reserved class is refused, nonzero low bits in classes 1 to 6 are refused, a `WRITE` to index 14
or 15 has no effect, and the data bits outside a register's mask are ignored. -/
def Obligations.ReservedWordsAreRefused : Prop :=
  ∀ (s : State) (c : Command) (rest : List Command), s.inbox = c :: rest →
    (7 ≤ c.word.toNat / 4096 → step s = .refused .reservedOp) ∧
    (1 ≤ c.word.toNat / 4096 → c.word.toNat / 4096 ≤ 6 → c.word.toNat % 4096 ≠ 0 →
      step s = .refused .reservedOperandBits) ∧
    (c.word.toNat / 256 = 14 ∨ c.word.toNat / 256 = 15 → step s = .next { s with inbox := rest }) ∧
    (∀ (r : Fin 14) (d : Byte), c.word = (BitVec.ofNat 8 r.val) ++ d →
      step s = step { s with inbox := { c with word := (BitVec.ofNat 8 r.val) ++ (d &&& regMask[r]) } :: rest })

/-- R76 for the fifteen constructors of refused rows: each stops with the spec's own reason. -/
def Obligations.ReservedRowsStopByName : Prop :=
  ∀ (low : BitVec 12) (s : State),
    (exec (.reservedOperand1 low) s = .refused .reservedOperandBits ∧
     exec (.reservedOperand2 low) s = .refused .reservedOperandBits ∧
     exec (.reservedOperand3 low) s = .refused .reservedOperandBits ∧
     exec (.reservedOperand4 low) s = .refused .reservedOperandBits ∧
     exec (.reservedOperand5 low) s = .refused .reservedOperandBits ∧
     exec (.reservedOperand6 low) s = .refused .reservedOperandBits) ∧
    (exec (.reserved7 low) s = .refused .reservedOp ∧ exec (.reserved8 low) s = .refused .reservedOp ∧
     exec (.reserved9 low) s = .refused .reservedOp ∧ exec (.reservedA low) s = .refused .reservedOp ∧
     exec (.reservedB low) s = .refused .reservedOp ∧ exec (.reservedC low) s = .refused .reservedOp ∧
     exec (.reservedD low) s = .refused .reservedOp ∧ exec (.reservedE low) s = .refused .reservedOp ∧
     exec (.reservedF low) s = .refused .reservedOp)

/-! ### Register writes -/

/-- R117, R20: a write completes, stores the byte under the register's mask, leaves every other register, and
leaves the flag alone unless it writes register 13. -/
def Obligations.WriteStoresTheMaskedByte : Prop :=
  ∀ (r : Fin 14) (d : Byte) (s : State), ∃ t, exec (.write (BitVec.ofNat 4 r.val) d) s = .next t ∧
    t.reg = s.reg.set r
      (d &&& (#v[0xFF, 0x0F, 0xFF, 0x0F, 0xFF, 0x0F, 0x1F, 0x3F, 0x1F, 0x1F, 0x1F, 0xFF, 0xFF, 0x0F] : Vector Byte 14)[r]) ∧
    t.shapeChanged = (if r = 13 then true else s.shapeChanged)

/-- R100 to R106: the six tone registers: stored byte, step, sentinel, and nothing else. -/
def Obligations.ToneWriteSetsStepAndSentinel : Prop :=
  ∀ (d : Byte) (s : State),
    (∃ t, exec (.writeR0 d) s = .next t ∧ ToneWritten 0 0 d s t) ∧
    (∃ t, exec (.writeR1 d) s = .next t ∧ ToneWritten 0 1 d s t) ∧
    (∃ t, exec (.writeR2 d) s = .next t ∧ ToneWritten 1 0 d s t) ∧
    (∃ t, exec (.writeR3 d) s = .next t ∧ ToneWritten 1 1 d s t) ∧
    (∃ t, exec (.writeR4 d) s = .next t ∧ ToneWritten 2 0 d s t) ∧
    (∃ t, exec (.writeR5 d) s = .next t ∧ ToneWritten 2 1 d s t)

/-- R107: the noise period: stored byte, step, pinned phase and level below the floor, and nothing else. -/
def Obligations.NoiseWriteSetsStepAndPins : Prop :=
  ∀ (d : Byte) (s : State), ∃ t, exec (.writeR6 d) s = .next t ∧
    t.reg = s.reg.set 6 (d &&& 0x1F) ∧
    (let np := d.toNat % 32
     t.nstep.toNat = if np < 3 then 0 else stepQuotient s.cfg s.cfg.noiseShift np) ∧
    t.npos = (if t.nstep = 0 then 0 else s.npos) ∧
    t.nlev = (if t.nstep = 0 then 0xFFFF else s.nlev) ∧
    t = { s with reg := t.reg, nstep := t.nstep, npos := t.npos, nlev := t.nlev }

/-- R108: the mixer: bit `v` gates the tone of voice `v`, bit `v + 3` its noise, a set bit all ones. -/
def Obligations.MixerWriteSetsTheGates : Prop :=
  ∀ (d : Byte) (s : State), ∃ t, exec (.writeR7 d) s = .next t ∧
    t.reg = s.reg.set 7 (d &&& 0x3F) ∧
    (∀ v : Fin 3, t.gateT[v] = (if d.toNat / 2 ^ v.val % 2 = 1 then 0xFFFF else 0x0000) ∧
      t.gateN[v] = (if d.toNat / 2 ^ (v.val + 3) % 2 = 1 then 0xFFFF else 0x0000)) ∧
    t = { s with reg := t.reg, gateT := t.gateT, gateN := t.gateN }

/-- R109 to R112: the amplitudes: the mode bit selects the envelope or the expanded fixed volume, in the voice's
own fields of the two words. -/
def Obligations.AmplitudeWriteSetsTheVoiceFields : Prop :=
  ∀ (d : Byte) (s : State),
    (∃ t, exec (.writeR8 d) s = .next t ∧ AmpWritten 0 d s t) ∧
    (∃ t, exec (.writeR9 d) s = .next t ∧ AmpWritten 1 d s t) ∧
    (∃ t, exec (.writeR10 d) s = .next t ∧ AmpWritten 2 d s t)

/-- R113, R114: the envelope period: stored byte, step, and nothing else; period 0 steps by half of period 1
(R122). -/
def Obligations.EnvelopePeriodWriteSetsTheStep : Prop :=
  ∀ (d : Byte) (s : State),
    (∃ t, exec (.writeR11 d) s = .next t ∧ EnvPeriodWritten 11 d s t) ∧
    (∃ t, exec (.writeR12 d) s = .next t ∧ EnvPeriodWritten 12 d s t)

/-- R115: the shape write selects the shape, restarts the envelope and raises the flag, whatever the state. -/
def Obligations.ShapeWriteRestartsTheEnvelope : Prop :=
  ∀ (d : Byte) (s : State), ∃ t, exec (.writeR13 d) s = .next t ∧
    t.reg = s.reg.set 13 (d &&& 0x0F) ∧ t.shape.toNat = d.toNat % 16 ∧ t.epos = 0 ∧ t.shapeChanged = true ∧
    t = { s with reg := t.reg, shape := t.shape, epos := t.epos, shapeChanged := t.shapeChanged }

/-- R116: a write to index 14 or 15 completes and changes no state. -/
def Obligations.WriteWithoutRegisterChangesNothing : Prop :=
  ∀ (d : Byte) (s : State), exec (.writeR14 d) s = .next s ∧ exec (.writeR15 d) s = .next s

/-- R56: writing the byte a register already holds changes nothing, but for register 13, which restarts the envelope
and raises the flag. -/
def Obligations.RewritingTheHeldByteRestartsTheEnvelopeAlone : Prop :=
  ∀ (r : Fin 14) (d : Byte) (s : State), Derived s → d &&& regMask[r] = s.reg[r] →
    exec (.write (BitVec.ofNat 4 r.val) d) s =
      .next (if r = 13 then { s with epos := 0, shapeChanged := true } else s)

/-- R262: a tone write that leaves a period of at most 5 resets the phase, and a later write of the pair keeps
the sentinel, whatever period it makes. -/
def Obligations.SubFloorPeriodResetsThePhase : Prop :=
  ∀ (v : Fin 3) (k : Fin 2) (d e : Byte) (s t u : State),
    exec (writeOp (2 * v.val + k.val) d) s = .next t →
    tonePeriod t.reg[2 * v.val + 1] t.reg[2 * v.val] ≤ 5 →
    exec (writeOp (2 * v.val + (1 - k.val)) e) t = .next u →
    t.pos[v] = 0x80000000 ∧ u.pos[v] = 0x80000000

/-- R77: every pseudo-operation runs to its end, and leaves the fields it names in the registers; an operand of no
stated width is a number, of which the low bits are taken (`notes/assumptions/16.md`). -/
def Obligations.PseudoOperationsProgramTheirField : Prop :=
  ∀ s : State,
    (∀ (v : Fin 3) (p : BitVec 12), ∃ t, execAll (expand (.setTone v p)) s = .next t ∧
      tonePeriod t.reg[2 * v.val + 1] t.reg[2 * v.val] = p.toNat) ∧
    (∀ p : Nat, ∃ t, execAll (expand (.setNoise p)) s = .next t ∧ t.reg[6].toNat = p % 32) ∧
    (∀ m : Nat, ∃ t, execAll (expand (.setMix m)) s = .next t ∧ t.reg[7].toNat = m % 64) ∧
    (∀ (v : Fin 3) (l : BitVec 4), ∃ t, execAll (expand (.setVol v l)) s = .next t ∧
      t.reg[8 + v.val].toNat = l.toNat) ∧
    (∀ v : Fin 3, ∃ t, execAll (expand (.setEnvMode v)) s = .next t ∧ t.reg[8 + v.val].toNat = 16) ∧
    (∀ p : BitVec 16, ∃ t, execAll (expand (.setEnv p)) s = .next t ∧
      envPeriod t.reg[12] t.reg[11] = p.toNat) ∧
    (∀ sh : Nat, ∃ t, execAll (expand (.setShape sh)) s = .next t ∧ t.reg[13].toNat = sh % 16)

/-! ### Step computation -/

/-- R120: a tone period of at most 5 has step 0; above the floor, as long as no quotient reaches `2^32`, the step
falls with the period, and it is positive when the numerator reaches `4095 × SAMPLE_RATE`. -/
def Obligations.ToneStepFallsWithThePeriod : Prop :=
  ∀ (cfg : Cfg) (hi lo hi' lo' : Byte),
    (tonePeriod hi lo ≤ 5 → toneStep cfg hi lo = 0) ∧
    (0 < cfg.sampleRate → cfg.chipClock * 2 ^ cfg.toneShift / (6 * cfg.sampleRate) < 2 ^ 32 →
      5 < tonePeriod hi lo →
      (tonePeriod hi lo ≤ tonePeriod hi' lo' → toneStep cfg hi' lo' ≤ toneStep cfg hi lo) ∧
      (4095 * cfg.sampleRate ≤ cfg.chipClock * 2 ^ cfg.toneShift → 0 < toneStep cfg hi lo))

/-- R121, R122: a noise period below 3 has step 0; envelope period 0 steps by half of period 1, which is the step
of period 2 as long as no quotient reaches `2^32`. -/
def Obligations.NoiseFloorAndEnvelopePeriodZero : Prop :=
  ∀ cfg : Cfg,
    (∀ r : Byte, r.toNat % 32 < 3 → noiseStep cfg r = 0) ∧
    (∀ r : Byte, 0 < cfg.sampleRate → 3 ≤ r.toNat % 32 → 31 * cfg.sampleRate ≤ cfg.chipClock * 2 ^ cfg.noiseShift →
      cfg.chipClock * 2 ^ cfg.noiseShift / (3 * cfg.sampleRate) < 2 ^ 32 → 0 < noiseStep cfg r) ∧
    (envStep cfg 0 0).toNat = (envStep cfg 0 1).toNat / 2 ∧
    (cfg.chipClock * 2 ^ cfg.envShift / cfg.sampleRate < 2 ^ 32 → envStep cfg 0 0 = envStep cfg 0 2)

/-! ### Envelope -/

/-- R130 to R132: every entry of the table is its level in all three voice fields, and the levels are those the
four shape bits produce. -/
def Obligations.EnvelopeTableIsTheChart : Prop :=
  ∀ (s : BitVec 4) (k : Nat) (h : k < 96),
    ((envTable[s.toNat]'s.isLt)[k]).toNat = bitsLevel s k * 0x421 ∧ bitsLevel s k ≤ 31

/-- R134: with the default fraction the position after a sample is inside the table for every position and every
step before it, and the sample's advance is the 32-bit sum, taken back by 64 entries past the last. -/
def Obligations.EnvelopeAdvanceStaysInTheTable : Prop :=
  ∀ s : State, s.cfg.envFracBits = 25 →
    (nextSample s).2.epos.toNat < 96 * 2 ^ 25 ∧
    (nextSample s).2.epos.toNat =
      (let e := (s.epos.toNat + s.estep.toNat) % 2 ^ 32
       if 96 * 2 ^ 25 ≤ e then e - 64 * 2 ^ 25 else e)

/-- R135: while the step is at most `2^30`, an index that has left the attack block never returns to it. -/
def Obligations.AttackBlockNeverRepeats : Prop :=
  ∀ (s : State) (n : Nat), s.cfg.envFracBits = 25 → s.estep.toNat ≤ 2 ^ 30 → s.epos.toNat < 96 * 2 ^ 25 →
    32 ≤ s.envIndex → 32 ≤ (afterSamples n s).envIndex ∧ (afterSamples n s).envIndex ≤ 95

/-! ### Noise -/

/-- R140, R26: with the taps `CREATE` accepts, `rnd()` shifts the seed right with the feedback bit on top, is
one-to-one, and keeps a nonzero seed nonzero; the mask is 0 exactly when the feedback bit is 1. -/
def Obligations.NoiseSeedStepIsABijection : Prop :=
  ∀ cfg : Cfg, cfg.lfsrTapA = 0 → 0 < cfg.lfsrTapB → cfg.lfsrTapB < 17 →
    (∀ seed : Lfsr,
      (∀ i < 16, (nextSeed cfg seed).getLsbD i = seed.getLsbD (i + 1)) ∧
      (nextSeed cfg seed).getLsbD 16 = (seed.getLsbD 0 != seed.getLsbD cfg.lfsrTapB) ∧
      toggleMask cfg seed = (if seed.getLsbD 0 != seed.getLsbD cfg.lfsrTapB then 0x0000 else 0xFFFF) ∧
      (seed ≠ 0 → nextSeed cfg seed ≠ 0)) ∧
    Function.Bijective (nextSeed cfg)

/-- R141, R142: a sample ticks the LFSR at most once, exactly when the integer part of the noise position is not 0,
keeps the fraction, and then adds the step. -/
def Obligations.NoiseTicksOncePerSample : Prop :=
  ∀ s : State,
    (s.npos.toNat < 2 ^ s.cfg.noiseFracBits →
      (nextSample s).2.seed = s.seed ∧ (nextSample s).2.nlev = s.nlev ∧
      (nextSample s).2.npos = s.npos + s.nstep) ∧
    (2 ^ s.cfg.noiseFracBits ≤ s.npos.toNat →
      (nextSample s).2.seed = nextSeed s.cfg s.seed ∧
      (nextSample s).2.nlev = s.nlev ^^^ toggleMask s.cfg s.seed ∧
      (nextSample s).2.npos = BitVec.ofNat 32 (s.npos.toNat % 2 ^ s.cfg.noiseFracBits) + s.nstep)

/-- R107, R141: a noise step of 0 pins the generator: over any number of samples nothing of it moves. -/
def Obligations.PinnedNoiseStaysPinned : Prop :=
  ∀ (s : State) (n : Nat), Derived s → s.nstep = 0 →
    (afterSamples n s).seed = s.seed ∧ (afterSamples n s).nlev = 0xFFFF ∧ (afterSamples n s).npos = 0

/-! ### DAC table -/

/-- R151, R155: entry `(c << 10) | (b << 5) | a` is made of `T(c, b, a)`; for a configuration `CREATE` accepts every
entry is the normalised one exactly, with the maximum taken over all entries, and it is in range. -/
def Obligations.DacTableIsNormalised : Prop :=
  ∀ (cfg : Cfg) (src : DacSource), CfgNumbersOk cfg → ∃ mx : Nat,
    (∀ (c b a : Level) (i : Word3), i.toNat = c.toNat * 1024 + b.toNat * 32 + a.toNat →
      rawAt src i = rawEntry src c b a) ∧
    (∀ j : Word3, rawAt src j ≤ mx) ∧ (∃ j : Word3, rawAt src j = mx) ∧
    ∀ i : Word3,
      ((dacTable src cfg)[i.toNat]'i.isLt).toInt =
        (if mx = 0 then 0 else ((rawAt src i * cfg.outputLevel / mx : Nat) : Int)) -
          (if cfg.doCenter then (((cfg.outputLevel + 1) / 2 : Nat) : Int) else 0) ∧
      (rawAt src i = mx → mx ≠ 0 → cfg.doCenter = false →
        ((dacTable src cfg)[i.toNat]'i.isLt).toInt = cfg.outputLevel)

/-- R153, R157: the linear table is the mean rounded down, does not depend on which voice has which level, and rises
with each voice's level when the voice table does. -/
def Obligations.LinearTableIsSymmetricAndMonotone : Prop :=
  ∀ (d : VoiceDac) (c b a : Level),
    rawEntry (.linear d) c b a =
      ((d[c.toNat]'c.isLt).toNat + (d[b.toNat]'b.isLt).toNat + (d[a.toNat]'a.isLt).toNat) / 3 ∧
    rawEntry (.linear d) c b a = rawEntry (.linear d) c a b ∧
    rawEntry (.linear d) c b a = rawEntry (.linear d) b c a ∧
    ((∀ x y : Level, x ≤ y → (d[x.toNat]'x.isLt).toNat ≤ (d[y.toNat]'y.isLt).toNat) →
      ∀ (cfg : Cfg), CfgNumbersOk cfg → ∀ (v : Fin 3) (i j : Word3),
        levelOf v i ≤ levelOf v j → (∀ u : Fin 3, u ≠ v → levelOf u i = levelOf u j) →
        ((dacTable (.linear d) cfg)[i.toNat]'i.isLt).toInt ≤ ((dacTable (.linear d) cfg)[j.toNat]'j.isLt).toInt)

/-- R152: the measured table is the floor of the exact rational blend, clamped; the clamp never acts, and the
corners of the table are the corner points. -/
def Obligations.MeasuredTableIsTheRationalBlend : Prop :=
  ∀ (m : MeasuredDac) (c b a : Level),
    (rawEntry (.measured m) c b a : Int) = max 0 (min 65535 ⌊rationalBlend m c b a⌋) ∧
    (rawEntry (.measured m) c b a : Int) = ⌊rationalBlend m c b a⌋ ∧
    rawEntry (.measured m) 0 0 0 = measuredPoint m 0 0 0 ∧
    rawEntry (.measured m) 31 31 31 = measuredPoint m 15 15 15

/-! ### Sample synthesizer -/

/-- R170: `NEXT_SAMPLE` completes, hands out the sample, leaves the state after it, and writes nothing but the noise,
the positions, the DC and filter state, and the model's own outbox and counter of free values
(`notes/assumptions/4.md`, `notes/assumptions/6.md`). -/
def Obligations.SampleWritesOnlyTheGenerators : Prop :=
  ∀ s : State, ∃ t, exec .nextSample s = .next t ∧
    t.outbox = s.outbox ++ [.sample (nextSample s).1] ∧
    t = { (nextSample s).2 with outbox := t.outbox } ∧
    (∀ v : Fin 3, t.pos[v] = s.pos[v] + s.tstep[v]) ∧
    t = { s with
      npos := t.npos, nlev := t.nlev, seed := t.seed, pos := t.pos, epos := t.epos, dcHist := t.dcHist,
      dcIdx := t.dcIdx, dcSum := t.dcSum, lp1 := t.lp1, lp2 := t.lp2, outbox := t.outbox, freeCtr := t.freeCtr }

/-- R170 to R175, R177, R150: a sample is the output stage's answer to the DAC entry of the index that the boolean
mixer builds from the state after the noise tick, and the DC and filter state after it is the output stage's; with
the filter off the sample is that entry itself (R193). -/
def Obligations.SampleIsTheBooleanMix : Prop :=
  ∀ s : State, Inv s → 25 ≤ s.cfg.envFracBits →
    ∃ i : Word3, i.toNat = booleanIndex (noiseTick s) ∧
      (let raw := s.dacTab[i.toNat]'i.isLt
       let o := postProcess raw s
       let t := (nextSample s).2
       (nextSample s).1 = o.1 ∧
       t.dcHist = o.2.dcHist ∧ t.dcIdx = o.2.dcIdx ∧ t.dcSum = o.2.dcSum ∧ t.lp1 = o.2.lp1 ∧ t.lp2 = o.2.lp2 ∧
       (s.cfg.lpfEnable = false → (nextSample s).1 = raw))

/-- R178: with every source disabled and no voice in envelope mode, every sample is the DAC entry of the fixed
volumes. -/
def Obligations.DisabledSourcesGiveAConstant : Prop :=
  ∀ (s : State) (n : Nat), Inv s → s.cfg.lpfEnable = false → s.reg[7] = 0x3F → s.envMask3 = 0 →
    samplesFrom n s = List.replicate n (s.readDac s.vol3)

/-! ### DC adjuster and filter -/

/-- R190 to R193: with the filter on, the output is the exact sum of the three shifted inputs and fits a sample,
the estimate is the truncated quotient in the range of a sample, and the history, its sum and the two inputs are
updated; with the filter off the output is the input and no DC or filter state moves. -/
def Obligations.FilterOutputIsExact : Prop :=
  ∀ (raw : Sample) (s : State),
    (s.cfg.lpfEnable = false → postProcess raw s = (raw, s)) ∧
    (DcWf s → s.cfg.lpfEnable = true →
      -32768 ≤ dcEstimate s ∧ dcEstimate s ≤ 32767 ∧
      (let x0 := wrap16 (raw.toInt - s.dcSum.tdiv s.cfg.dcN)
       let o := postProcess raw s
       o.1.toInt = s.lp2.toInt / 4 + s.lp1.toInt / 2 + x0.toInt / 4 ∧
       -32768 ≤ o.1.toInt ∧ o.1.toInt ≤ 32765 ∧
       o.2.lp1 = x0 ∧ o.2.lp2 = s.lp1 ∧ o.2.dcHist = s.dcHist.set s.dcIdx raw ∧
       o.2.dcIdx = (s.dcIdx + 1) % s.cfg.dcN ∧ DcWf o.2 ∧
       o.2 = { s with lp1 := o.2.lp1, lp2 := o.2.lp2, dcHist := o.2.dcHist, dcIdx := o.2.dcIdx, dcSum := o.2.dcSum }))

/-- R194: a constant input held from reset makes the estimate equal to it from sample `DC_N` on, and the output 0
from sample `DC_N + 2` on. -/
def Obligations.ConstantInputSettlesToZero : Prop :=
  ∀ (cfg : Cfg) (src : DacSource) (k : Sample) (n : Nat), CfgNumbersOk cfg → cfg.lpfEnable = true →
    let s := State.created cfg src
    (cfg.dcN ≤ n → dcEstimate (filterRun (List.replicate n k) s).2 = k.toInt) ∧
    (cfg.dcN + 2 ≤ n → ∀ j, cfg.dcN + 2 ≤ j → j < n →
      (filterRun (List.replicate n k) s).1[j]? = some 0)

/-! ### Frame scheduler and consumer -/

/-- R200, R204: `ADVANCE` completes from every state: the count by the two clamps, the cycles, the cursors, the
event, one ring slot a sample in order, and nothing written but what the samples write. -/
def Obligations.AdvanceGeneratesAFrame : Prop :=
  ∀ (cycles : Nat) (s : State), ∃ t, exec (.advance cycles) s = .next t ∧
    (let S := s.cfg.sampleRate / s.cfg.fps
     let P := s.cfg.cyclesPerFrame
     let m := min ((s.cyc + cycles) * S / P) S
     let n := min m (s.cfg.ringCapacity - s.pending)
     t.cyc = s.cyc + cycles - m * P / S ∧
     t.wcur = (s.wcur + n) % s.cfg.ringCapacity ∧ t.pending = s.pending + n ∧
     t.outbox = s.outbox ++ [.notify s.wcur n] ∧
     t.ring.length = s.ring.length ∧
     (s.ring.length = s.cfg.ringCapacity → n ≤ s.cfg.ringCapacity →
       (∀ (i : Nat) (x : Sample), (samplesFrom n s)[i]? = some x →
         t.ring[(s.wcur + i) % s.cfg.ringCapacity]? = some (x, x)) ∧
       (∀ j, (∀ i < n, j ≠ (s.wcur + i) % s.cfg.ringCapacity) → t.ring[j]? = s.ring[j]?)) ∧
     (samplesFrom n s).length = n ∧
     t = { afterSamples n s with
       cyc := t.cyc, wcur := t.wcur, pending := t.pending, outbox := t.outbox, ring := t.ring })

/-- R201: the cycles used never exceed those supplied; a call the frame clamp did not limit leaves less than two
samples' worth; a call of exactly one frame's cycles with none carried counts exactly one frame. -/
def Obligations.CycleCarryIsBounded : Prop :=
  ∀ (cycles : Nat) (s t : State), CfgNumbersOk s.cfg → exec (.advance cycles) s = .next t →
    (let S := samplesPerFrame s.cfg
     let P := s.cfg.cyclesPerFrame
     let m := samplesDue s.cfg (s.cyc + cycles)
     m * P / S ≤ s.cyc + cycles ∧
     ((s.cyc + cycles) * S / P ≤ S → t.cyc < P / S + 2) ∧
     (s.cyc = 0 → cycles = P → m = S ∧ t.cyc = 0))

/-- R201: over a run of `ADVANCE`s from an empty cycle count the samples counted stay within one cycle a call of
the exact count. -/
def Obligations.SampleCountTracksTheCycles : Prop :=
  ∀ (cs : List Nat) (s t : State), CfgNumbersOk s.cfg → s.cyc = 0 → cs ≠ [] →
    execAll (cs.map .advance) s = .next t →
    t.cyc ≤ cs.sum ∧
    (cs.sum - t.cyc) * samplesPerFrame s.cfg ≤ dueOver s.cfg 0 cs * s.cfg.cyclesPerFrame ∧
    dueOver s.cfg 0 cs * s.cfg.cyclesPerFrame < (cs.sum - t.cyc + cs.length) * samplesPerFrame s.cfg

/-- R203: `CONSUME` hands out the oldest pairs, moves the read cursor and the count, and changes nothing else; it
refuses more than are pending. -/
def Obligations.ConsumeTakesTheOldestPairs : Prop :=
  ∀ (k : Nat) (s : State),
    (s.pending < k → exec (.consume k) s = .refused .consumeTooMany) ∧
    (k ≤ s.pending → ∃ t taken, exec (.consume k) s = .next t ∧
      taken.length = k ∧
      (∀ j, j < k → taken[j]? = some (s.ringAt ((s.rcur + j) % s.cfg.ringCapacity))) ∧
      t = { s with
        rcur := (s.rcur + k) % s.cfg.ringCapacity, pending := s.pending - k
        outbox := s.outbox ++ [.pairs taken] })

/-- R30, R202, R203: the ring is a queue: `ADVANCE` puts its samples behind those pending, `CONSUME` takes from the
front, and no pair is lost, repeated or reordered. -/
def Obligations.RingIsAQueue : Prop :=
  ∀ s : State, RingWf s →
    (∀ cycles t, exec (.advance cycles) s = .next t →
      queued t = queued s ++ (samplesFrom (samplesGenerated cycles s) s).map (fun x => (x, x))) ∧
    (∀ k t, exec (.consume k) s = .next t →
      t.outbox = s.outbox ++ [.pairs ((queued s).take k)] ∧ queued t = (queued s).drop k)

/-- R205: `ACK_SHAPE` hands out the flag (in `outbox`, `notes/assumptions/4.md`) and clears it. -/
def Obligations.AcknowledgeReturnsAndClearsTheFlag : Prop :=
  ∀ s : State, exec .ackShape s =
    .next { s with shapeChanged := false, outbox := s.outbox ++ [.shapeFlag s.shapeChanged] }

/-! ### Snapshots -/

/-- R206: `SNAP_EXPORT` hands out a record of the listed fields (in `outbox`, `notes/assumptions/4.md`) and changes no
other state. -/
def Obligations.ExportCopiesTheGenerators : Prop :=
  ∀ s : State, ∃ σ, exec .snapExport s = .next { s with outbox := s.outbox ++ [.snapshot σ] } ∧
    (∀ i : Fin 14, σ.reg[i] = s.reg[i].toNat) ∧
    (∀ v : Fin 3, σ.pos[v] = s.pos[v].toNat ∧ σ.tstep[v] = s.tstep[v].toNat) ∧
    σ.npos = s.npos.toNat ∧ σ.nstep = s.nstep.toNat ∧ σ.seed = s.seed.toNat ∧ σ.nlev = s.nlev.toNat ∧
    σ.epos = s.epos.toNat ∧ σ.estep = s.estep.toNat ∧ σ.shape = s.shape.toNat ∧ σ.vol3 = s.vol3.toNat ∧
    σ.envMask3 = s.envMask3.toNat

/-- R207: a record that fails `Consistent` is refused; one that meets it completes: its fields and the gates of its
register 7 are taken, and nothing else changes. -/
def Obligations.ImportTakesAConsistentRecord : Prop :=
  ∀ (σ : Snapshot) (s : State),
    (consistent s.cfg σ = false → exec (.snapImport σ) s = .refused .snapshotInconsistent) ∧
    (consistent s.cfg σ = true → ∃ t, exec (.snapImport σ) s = .next t ∧ snapshotOf t = σ ∧
      (∀ v : Fin 3, t.gateT[v] = (if t.reg[7].getLsbD v then 0xFFFF else 0x0000) ∧
        t.gateN[v] = (if t.reg[7].getLsbD (v + 3) then 0xFFFF else 0x0000)) ∧
      Derived t ∧ RegsMasked t ∧ NoiseWf t ∧
      t = { s with
        reg := t.reg, pos := t.pos, tstep := t.tstep, gateT := t.gateT, gateN := t.gateN, vol3 := t.vol3,
        envMask3 := t.envMask3, nstep := t.nstep, npos := t.npos, seed := t.seed, nlev := t.nlev,
        estep := t.estep, epos := t.epos, shape := t.shape })

/-- R207, D32: the records `Consistent` accepts are exactly those of a state with masked registers, the derived-state
invariant, the ranges of the noise and envelope generators, and no noise tick due. -/
def Obligations.ConsistentRecordsAreThoseOfAState : Prop :=
  ∀ (cfg : Cfg) (σ : Snapshot), consistent cfg σ = true ↔
    ∃ t : State, t.cfg = cfg ∧ snapshotOf t = σ ∧ RegsMasked t ∧ Derived t ∧ NoiseWf t ∧
      t.npos.toNat ≤ 0xFFFF ∧ t.epos.toNat < 96 * 2 ^ cfg.envFracBits

/-- R207, a corner case: importing the record just exported leaves the state unchanged, wherever the record meets the
bound R207 puts on `npos`. -/
def Obligations.ImportOfTheExportChangesNothing : Prop :=
  ∀ s : State, Inv s → 25 ≤ s.cfg.envFracBits → s.npos.toNat ≤ 0xFFFF → exec (.snapImport (snapshotOf s)) s = .next s

/-- R207 against its own corner case (`notes/assumptions/5.md`): a record exported while a noise tick is due carries
an `npos` above the bound, and is refused. -/
def Obligations.ExportWithATickDueIsRefused : Prop :=
  ∀ s : State, 0xFFFF < s.npos.toNat → exec (.snapImport (snapshotOf s)) s = .refused .snapshotInconsistent

/-- R207, the example: with the filter off, an instance that imports a record gives the same samples as the one
it was exported from, however far it had gone. -/
def Obligations.ImportReplaysTheSamples : Prop :=
  ∀ (s u v : State) (n : Nat), Inv s → 25 ≤ s.cfg.envFracBits → s.cfg.lpfEnable = false →
    u.cfg = s.cfg → u.envTab = s.envTab → u.dacTab = s.dacTab → exec (.snapImport (snapshotOf s)) u = .next v →
    samplesFrom n v = samplesFrom n s ∧ SameGenerators (afterSamples n v) (afterSamples n s)

/-! ### Reset and creation -/

/-- R250, R37, R251: `RESET` completes from every state, and what it leaves is the table of R37, whatever the state
before; the configuration and the tables stay.  That `inbox`, `outbox` and `freeCtr` stay is the model's choice
(`notes/assumptions/7.md`). -/
def Obligations.ResetLeavesTheResetState : Prop :=
  ∀ s : State, exec .reset s =
    .next { State.afterReset s.cfg s.envTab s.dacTab with
      inbox := s.inbox, outbox := s.outbox, freeCtr := s.freeCtr }

/-- R256: `CREATE` refuses a configuration that breaks a condition (`notes/assumptions/8.md` for the ranges of R6's
table) or lacks the table its strategy needs, and otherwise makes the reset state of an instance with the tables of R130 and R156. -/
def Obligations.CreateBuildsAnInstance : Prop :=
  ∀ (cfg : Cfg) (s : State),
    (¬(CfgNumbersOk cfg ∧ (cfg.dacStrategy = .measured → cfg.measuredDac16 ≠ none) ∧
        (cfg.dacStrategy = .linear → cfg.voiceDac32 ≠ none)) → exec (.create cfg) s = .refused .cfgIllFormed) ∧
    (∀ src, CfgNumbersOk cfg → dacSource cfg = some src → exec (.create cfg) s =
      .next { State.created cfg src with inbox := s.inbox, outbox := s.outbox, freeCtr := s.freeCtr })

/-- The whole table of R37 at the default parameters, on the model's reset instance (`notes/assumptions/1.md`: the
instance is the spec's vector configuration). -/
def Obligations.ResetInstanceHasTheListedValues : Prop :=
  State.reset.reg = #v[0, 0, 0, 0, 0, 0, 0, 0x3F, 0, 0, 0, 0, 0, 0] ∧
  (∀ v : Fin 3, State.reset.pos[v] = 0x80000000 ∧ State.reset.tstep[v] = 0 ∧
    State.reset.gateT[v] = 0xFFFF ∧ State.reset.gateN[v] = 0xFFFF) ∧
  State.reset.vol3 = 0 ∧ State.reset.envMask3 = 0 ∧ State.reset.nstep = 0 ∧ State.reset.npos = 0 ∧
  State.reset.nlev = 0xFFFF ∧ State.reset.seed = 1 ∧ State.reset.estep = 95108934 ∧ State.reset.epos = 0 ∧
  State.reset.shape = 0 ∧ State.reset.shapeChanged = false ∧
  State.reset.ring = List.replicate 8192 (0, 0) ∧ State.reset.wcur = 0 ∧ State.reset.rcur = 0 ∧
  State.reset.pending = 0 ∧ State.reset.dcHist = List.replicate 512 0 ∧ State.reset.dcIdx = 0 ∧
  State.reset.dcSum = 0 ∧ State.reset.lp1 = 0 ∧ State.reset.lp2 = 0 ∧ State.reset.cyc = 0 ∧
  State.reset.cfg = vectorCfg ∧ State.reset.envTab = envTable ∧
  State.reset.dacTab = dacTable (.linear exampleVoiceDac) vectorCfg

/-! ### The whole machine -/

/-- R24 to R31, R34: every step keeps the invariant.  The envelope's part is claimed for `ENV_FRAC_BITS` of at least 25
(`notes/assumptions/14.md`). -/
def Obligations.EveryStepKeepsTheInvariants : Prop :=
  ∀ s t : State, Inv s → step s = .next t → Inv t

/-- R257: every instance `CREATE` makes meets the invariant. -/
def Obligations.CreatedInstanceMeetsTheInvariants : Prop :=
  ∀ (cfg : Cfg) (src : DacSource), CfgNumbersOk cfg → dacSource cfg = some src → Inv (State.created cfg src)

/-- The invariant holds at the model's reset state (`notes/assumptions/1.md`: the instance is the spec's vector
configuration). -/
def Obligations.ResetMeetsTheInvariants : Prop := Inv State.reset

/-- R34 for the two tables, R6 and R208 for the configuration: they are written by `CREATE` alone, which puts a new
instance in the state's place (`notes/assumptions/7.md`). -/
def Obligations.TablesAreWrittenByCreateAlone : Prop :=
  ∀ (i : Instr) (s t : State), exec i s = .next t → (∀ cfg, i ≠ .create cfg) →
    t.cfg = s.cfg ∧ t.envTab = s.envTab ∧ t.dacTab = s.dacTab

/-- R143: `seed` changes only in a sample, at `RESET` (and in `CREATE`, which runs it) and at snapshot import. -/
def Obligations.SeedChangesOnlyWhereListed : Prop :=
  ∀ (i : Instr) (s t : State), exec i s = .next t → t.seed ≠ s.seed →
    i = .nextSample ∨ (∃ c, i = .advance c) ∨ i = .reset ∨ (∃ cfg, i = .create cfg) ∨ (∃ σ, i = .snapImport σ)

/-- R20: the register file has no writer but `WRITE`, `RESET` (and `CREATE`, which runs it) and snapshot import. -/
def Obligations.RegistersHaveThreeWriters : Prop :=
  ∀ (i : Instr) (s t : State), exec i s = .next t → t.reg ≠ s.reg →
    (∃ r d, i = .write r d) ∨ i = .reset ∨ (∃ cfg, i = .create cfg) ∨ (∃ σ, i = .snapImport σ)

/-- R28: `shapeChanged` is raised by a write to register 13 alone. -/
def Obligations.FlagIsRaisedByTheShapeWriteAlone : Prop :=
  ∀ (i : Instr) (s t : State), exec i s = .next t → s.shapeChanged = false → t.shapeChanged = true →
    ∃ d, i = .writeR13 d

/-- R231: an operation is refused for one of the five reasons of the list, exactly where the list says. -/
def Obligations.RefusalsAreTheListedOnes : Prop :=
  ∀ (i : Instr) (s : State) (r : Refusal), exec i s = .refused r ↔
    (r = .reservedOp ∧ ∃ low, i ∈ [.reserved7 low, .reserved8 low, .reserved9 low, .reservedA low,
      .reservedB low, .reservedC low, .reservedD low, .reservedE low, .reservedF low]) ∨
    (r = .reservedOperandBits ∧ ∃ low, i ∈ [.reservedOperand1 low, .reservedOperand2 low,
      .reservedOperand3 low, .reservedOperand4 low, .reservedOperand5 low, .reservedOperand6 low]) ∨
    (r = .consumeTooMany ∧ ∃ k, i = .consume k ∧ s.pending < k) ∨
    (r = .snapshotInconsistent ∧ ∃ σ, i = .snapImport σ ∧ consistent s.cfg σ = false) ∨
    (r = .cfgIllFormed ∧ ∃ cfg, i = .create cfg ∧ cfgOk cfg = false)

/-- On the model's own interface fields (`notes/assumptions/3.md` for `inbox`, `notes/assumptions/4.md` for `outbox`,
`notes/assumptions/7.md` for `RESET` and `CREATE` keeping both): a step that completes has taken exactly the oldest
command, or found none; what was handed out before stays, and at most one thing is handed out. -/
def Obligations.StepTakesOneCommandAndAppends : Prop :=
  ∀ s t : State, step s = .next t →
    t.inbox = s.inbox.tail ∧ ∃ new, t.outbox = s.outbox ++ new ∧ new.length ≤ 1

/-- R203, R56, R100 to R117: the consumer's operation touches its cursor and the count, a register write the
generators, so the two commute. -/
def Obligations.ConsumeCommutesWithWrites : Prop :=
  ∀ (k : Nat) (r : BitVec 4) (d : Byte) (s : State), k ≤ s.pending →
    ∃ t, execAll [.consume k, .write r d] s = .next t ∧ execAll [.write r d, .consume k] s = .next t

/-- R133, R134, `notes/assumptions/6.md`: where the envelope fraction is at least the default 25, no operation of an
instance reads the model's free value. -/
def Obligations.FreeValueIsNeverReadAtTheDefaults : Prop :=
  ∀ (i : Instr) (s t : State), Inv s → 25 ≤ s.cfg.envFracBits → exec i s = .next t → t.freeCtr = s.freeCtr
end

