-- ==== Sys2Proof/Laws/State.lean ====
section
/-!
SUPPORT. One lemma per field per update: what each shared operation leaves alone, by `simp`.  The fields an
operation writes have their lemmas in `Laws/Ops.lean`.
-/

namespace Sys2Proof.Machine

variable (s : State)

@[simp] theorem putReg_cfg (r : Fin 14) (d : Byte) : (State.putReg r d s).cfg = s.cfg := rfl
@[simp] theorem putReg_envTab (r : Fin 14) (d : Byte) : (State.putReg r d s).envTab = s.envTab := rfl
@[simp] theorem putReg_dacTab (r : Fin 14) (d : Byte) : (State.putReg r d s).dacTab = s.dacTab := rfl
@[simp] theorem putReg_pos (r : Fin 14) (d : Byte) : (State.putReg r d s).pos = s.pos := rfl
@[simp] theorem putReg_tstep (r : Fin 14) (d : Byte) : (State.putReg r d s).tstep = s.tstep := rfl
@[simp] theorem putReg_gateT (r : Fin 14) (d : Byte) : (State.putReg r d s).gateT = s.gateT := rfl
@[simp] theorem putReg_gateN (r : Fin 14) (d : Byte) : (State.putReg r d s).gateN = s.gateN := rfl
@[simp] theorem putReg_vol3 (r : Fin 14) (d : Byte) : (State.putReg r d s).vol3 = s.vol3 := rfl
@[simp] theorem putReg_envMask3 (r : Fin 14) (d : Byte) : (State.putReg r d s).envMask3 = s.envMask3 := rfl
@[simp] theorem putReg_nstep (r : Fin 14) (d : Byte) : (State.putReg r d s).nstep = s.nstep := rfl
@[simp] theorem putReg_npos (r : Fin 14) (d : Byte) : (State.putReg r d s).npos = s.npos := rfl
@[simp] theorem putReg_seed (r : Fin 14) (d : Byte) : (State.putReg r d s).seed = s.seed := rfl
@[simp] theorem putReg_nlev (r : Fin 14) (d : Byte) : (State.putReg r d s).nlev = s.nlev := rfl
@[simp] theorem putReg_estep (r : Fin 14) (d : Byte) : (State.putReg r d s).estep = s.estep := rfl
@[simp] theorem putReg_epos (r : Fin 14) (d : Byte) : (State.putReg r d s).epos = s.epos := rfl
@[simp] theorem putReg_shape (r : Fin 14) (d : Byte) : (State.putReg r d s).shape = s.shape := rfl
@[simp] theorem putReg_shapeChanged (r : Fin 14) (d : Byte) : (State.putReg r d s).shapeChanged = s.shapeChanged := rfl
@[simp] theorem putReg_ring (r : Fin 14) (d : Byte) : (State.putReg r d s).ring = s.ring := rfl
@[simp] theorem putReg_wcur (r : Fin 14) (d : Byte) : (State.putReg r d s).wcur = s.wcur := rfl
@[simp] theorem putReg_rcur (r : Fin 14) (d : Byte) : (State.putReg r d s).rcur = s.rcur := rfl
@[simp] theorem putReg_pending (r : Fin 14) (d : Byte) : (State.putReg r d s).pending = s.pending := rfl
@[simp] theorem putReg_dcHist (r : Fin 14) (d : Byte) : (State.putReg r d s).dcHist = s.dcHist := rfl
@[simp] theorem putReg_dcIdx (r : Fin 14) (d : Byte) : (State.putReg r d s).dcIdx = s.dcIdx := rfl
@[simp] theorem putReg_dcSum (r : Fin 14) (d : Byte) : (State.putReg r d s).dcSum = s.dcSum := rfl
@[simp] theorem putReg_lp1 (r : Fin 14) (d : Byte) : (State.putReg r d s).lp1 = s.lp1 := rfl
@[simp] theorem putReg_lp2 (r : Fin 14) (d : Byte) : (State.putReg r d s).lp2 = s.lp2 := rfl
@[simp] theorem putReg_cyc (r : Fin 14) (d : Byte) : (State.putReg r d s).cyc = s.cyc := rfl
@[simp] theorem putReg_inbox (r : Fin 14) (d : Byte) : (State.putReg r d s).inbox = s.inbox := rfl
@[simp] theorem putReg_outbox (r : Fin 14) (d : Byte) : (State.putReg r d s).outbox = s.outbox := rfl
@[simp] theorem putReg_freeCtr (r : Fin 14) (d : Byte) : (State.putReg r d s).freeCtr = s.freeCtr := rfl

@[simp] theorem raiseShapeChanged_cfg : (State.raiseShapeChanged s).cfg = s.cfg := rfl
@[simp] theorem raiseShapeChanged_envTab : (State.raiseShapeChanged s).envTab = s.envTab := rfl
@[simp] theorem raiseShapeChanged_dacTab : (State.raiseShapeChanged s).dacTab = s.dacTab := rfl
@[simp] theorem raiseShapeChanged_reg : (State.raiseShapeChanged s).reg = s.reg := rfl
@[simp] theorem raiseShapeChanged_pos : (State.raiseShapeChanged s).pos = s.pos := rfl
@[simp] theorem raiseShapeChanged_tstep : (State.raiseShapeChanged s).tstep = s.tstep := rfl
@[simp] theorem raiseShapeChanged_gateT : (State.raiseShapeChanged s).gateT = s.gateT := rfl
@[simp] theorem raiseShapeChanged_gateN : (State.raiseShapeChanged s).gateN = s.gateN := rfl
@[simp] theorem raiseShapeChanged_vol3 : (State.raiseShapeChanged s).vol3 = s.vol3 := rfl
@[simp] theorem raiseShapeChanged_envMask3 : (State.raiseShapeChanged s).envMask3 = s.envMask3 := rfl
@[simp] theorem raiseShapeChanged_nstep : (State.raiseShapeChanged s).nstep = s.nstep := rfl
@[simp] theorem raiseShapeChanged_npos : (State.raiseShapeChanged s).npos = s.npos := rfl
@[simp] theorem raiseShapeChanged_seed : (State.raiseShapeChanged s).seed = s.seed := rfl
@[simp] theorem raiseShapeChanged_nlev : (State.raiseShapeChanged s).nlev = s.nlev := rfl
@[simp] theorem raiseShapeChanged_estep : (State.raiseShapeChanged s).estep = s.estep := rfl
@[simp] theorem raiseShapeChanged_epos : (State.raiseShapeChanged s).epos = s.epos := rfl
@[simp] theorem raiseShapeChanged_shape : (State.raiseShapeChanged s).shape = s.shape := rfl
@[simp] theorem raiseShapeChanged_ring : (State.raiseShapeChanged s).ring = s.ring := rfl
@[simp] theorem raiseShapeChanged_wcur : (State.raiseShapeChanged s).wcur = s.wcur := rfl
@[simp] theorem raiseShapeChanged_rcur : (State.raiseShapeChanged s).rcur = s.rcur := rfl
@[simp] theorem raiseShapeChanged_pending : (State.raiseShapeChanged s).pending = s.pending := rfl
@[simp] theorem raiseShapeChanged_dcHist : (State.raiseShapeChanged s).dcHist = s.dcHist := rfl
@[simp] theorem raiseShapeChanged_dcIdx : (State.raiseShapeChanged s).dcIdx = s.dcIdx := rfl
@[simp] theorem raiseShapeChanged_dcSum : (State.raiseShapeChanged s).dcSum = s.dcSum := rfl
@[simp] theorem raiseShapeChanged_lp1 : (State.raiseShapeChanged s).lp1 = s.lp1 := rfl
@[simp] theorem raiseShapeChanged_lp2 : (State.raiseShapeChanged s).lp2 = s.lp2 := rfl
@[simp] theorem raiseShapeChanged_cyc : (State.raiseShapeChanged s).cyc = s.cyc := rfl
@[simp] theorem raiseShapeChanged_inbox : (State.raiseShapeChanged s).inbox = s.inbox := rfl
@[simp] theorem raiseShapeChanged_outbox : (State.raiseShapeChanged s).outbox = s.outbox := rfl
@[simp] theorem raiseShapeChanged_freeCtr : (State.raiseShapeChanged s).freeCtr = s.freeCtr := rfl

@[simp] theorem clearShapeChanged_cfg : (State.clearShapeChanged s).cfg = s.cfg := rfl
@[simp] theorem clearShapeChanged_envTab : (State.clearShapeChanged s).envTab = s.envTab := rfl
@[simp] theorem clearShapeChanged_dacTab : (State.clearShapeChanged s).dacTab = s.dacTab := rfl
@[simp] theorem clearShapeChanged_reg : (State.clearShapeChanged s).reg = s.reg := rfl
@[simp] theorem clearShapeChanged_pos : (State.clearShapeChanged s).pos = s.pos := rfl
@[simp] theorem clearShapeChanged_tstep : (State.clearShapeChanged s).tstep = s.tstep := rfl
@[simp] theorem clearShapeChanged_gateT : (State.clearShapeChanged s).gateT = s.gateT := rfl
@[simp] theorem clearShapeChanged_gateN : (State.clearShapeChanged s).gateN = s.gateN := rfl
@[simp] theorem clearShapeChanged_vol3 : (State.clearShapeChanged s).vol3 = s.vol3 := rfl
@[simp] theorem clearShapeChanged_envMask3 : (State.clearShapeChanged s).envMask3 = s.envMask3 := rfl
@[simp] theorem clearShapeChanged_nstep : (State.clearShapeChanged s).nstep = s.nstep := rfl
@[simp] theorem clearShapeChanged_npos : (State.clearShapeChanged s).npos = s.npos := rfl
@[simp] theorem clearShapeChanged_seed : (State.clearShapeChanged s).seed = s.seed := rfl
@[simp] theorem clearShapeChanged_nlev : (State.clearShapeChanged s).nlev = s.nlev := rfl
@[simp] theorem clearShapeChanged_estep : (State.clearShapeChanged s).estep = s.estep := rfl
@[simp] theorem clearShapeChanged_epos : (State.clearShapeChanged s).epos = s.epos := rfl
@[simp] theorem clearShapeChanged_shape : (State.clearShapeChanged s).shape = s.shape := rfl
@[simp] theorem clearShapeChanged_ring : (State.clearShapeChanged s).ring = s.ring := rfl
@[simp] theorem clearShapeChanged_wcur : (State.clearShapeChanged s).wcur = s.wcur := rfl
@[simp] theorem clearShapeChanged_rcur : (State.clearShapeChanged s).rcur = s.rcur := rfl
@[simp] theorem clearShapeChanged_pending : (State.clearShapeChanged s).pending = s.pending := rfl
@[simp] theorem clearShapeChanged_dcHist : (State.clearShapeChanged s).dcHist = s.dcHist := rfl
@[simp] theorem clearShapeChanged_dcIdx : (State.clearShapeChanged s).dcIdx = s.dcIdx := rfl
@[simp] theorem clearShapeChanged_dcSum : (State.clearShapeChanged s).dcSum = s.dcSum := rfl
@[simp] theorem clearShapeChanged_lp1 : (State.clearShapeChanged s).lp1 = s.lp1 := rfl
@[simp] theorem clearShapeChanged_lp2 : (State.clearShapeChanged s).lp2 = s.lp2 := rfl
@[simp] theorem clearShapeChanged_cyc : (State.clearShapeChanged s).cyc = s.cyc := rfl
@[simp] theorem clearShapeChanged_inbox : (State.clearShapeChanged s).inbox = s.inbox := rfl
@[simp] theorem clearShapeChanged_outbox : (State.clearShapeChanged s).outbox = s.outbox := rfl
@[simp] theorem clearShapeChanged_freeCtr : (State.clearShapeChanged s).freeCtr = s.freeCtr := rfl

@[simp] theorem ringPut_cfg (j : Nat) (p : StereoPair) : (State.ringPut j p s).cfg = s.cfg := rfl
@[simp] theorem ringPut_envTab (j : Nat) (p : StereoPair) : (State.ringPut j p s).envTab = s.envTab := rfl
@[simp] theorem ringPut_dacTab (j : Nat) (p : StereoPair) : (State.ringPut j p s).dacTab = s.dacTab := rfl
@[simp] theorem ringPut_reg (j : Nat) (p : StereoPair) : (State.ringPut j p s).reg = s.reg := rfl
@[simp] theorem ringPut_pos (j : Nat) (p : StereoPair) : (State.ringPut j p s).pos = s.pos := rfl
@[simp] theorem ringPut_tstep (j : Nat) (p : StereoPair) : (State.ringPut j p s).tstep = s.tstep := rfl
@[simp] theorem ringPut_gateT (j : Nat) (p : StereoPair) : (State.ringPut j p s).gateT = s.gateT := rfl
@[simp] theorem ringPut_gateN (j : Nat) (p : StereoPair) : (State.ringPut j p s).gateN = s.gateN := rfl
@[simp] theorem ringPut_vol3 (j : Nat) (p : StereoPair) : (State.ringPut j p s).vol3 = s.vol3 := rfl
@[simp] theorem ringPut_envMask3 (j : Nat) (p : StereoPair) : (State.ringPut j p s).envMask3 = s.envMask3 := rfl
@[simp] theorem ringPut_nstep (j : Nat) (p : StereoPair) : (State.ringPut j p s).nstep = s.nstep := rfl
@[simp] theorem ringPut_npos (j : Nat) (p : StereoPair) : (State.ringPut j p s).npos = s.npos := rfl
@[simp] theorem ringPut_seed (j : Nat) (p : StereoPair) : (State.ringPut j p s).seed = s.seed := rfl
@[simp] theorem ringPut_nlev (j : Nat) (p : StereoPair) : (State.ringPut j p s).nlev = s.nlev := rfl
@[simp] theorem ringPut_estep (j : Nat) (p : StereoPair) : (State.ringPut j p s).estep = s.estep := rfl
@[simp] theorem ringPut_epos (j : Nat) (p : StereoPair) : (State.ringPut j p s).epos = s.epos := rfl
@[simp] theorem ringPut_shape (j : Nat) (p : StereoPair) : (State.ringPut j p s).shape = s.shape := rfl
@[simp] theorem ringPut_shapeChanged (j : Nat) (p : StereoPair) : (State.ringPut j p s).shapeChanged = s.shapeChanged := rfl
@[simp] theorem ringPut_wcur (j : Nat) (p : StereoPair) : (State.ringPut j p s).wcur = s.wcur := rfl
@[simp] theorem ringPut_rcur (j : Nat) (p : StereoPair) : (State.ringPut j p s).rcur = s.rcur := rfl
@[simp] theorem ringPut_pending (j : Nat) (p : StereoPair) : (State.ringPut j p s).pending = s.pending := rfl
@[simp] theorem ringPut_dcHist (j : Nat) (p : StereoPair) : (State.ringPut j p s).dcHist = s.dcHist := rfl
@[simp] theorem ringPut_dcIdx (j : Nat) (p : StereoPair) : (State.ringPut j p s).dcIdx = s.dcIdx := rfl
@[simp] theorem ringPut_dcSum (j : Nat) (p : StereoPair) : (State.ringPut j p s).dcSum = s.dcSum := rfl
@[simp] theorem ringPut_lp1 (j : Nat) (p : StereoPair) : (State.ringPut j p s).lp1 = s.lp1 := rfl
@[simp] theorem ringPut_lp2 (j : Nat) (p : StereoPair) : (State.ringPut j p s).lp2 = s.lp2 := rfl
@[simp] theorem ringPut_cyc (j : Nat) (p : StereoPair) : (State.ringPut j p s).cyc = s.cyc := rfl
@[simp] theorem ringPut_inbox (j : Nat) (p : StereoPair) : (State.ringPut j p s).inbox = s.inbox := rfl
@[simp] theorem ringPut_outbox (j : Nat) (p : StereoPair) : (State.ringPut j p s).outbox = s.outbox := rfl
@[simp] theorem ringPut_freeCtr (j : Nat) (p : StereoPair) : (State.ringPut j p s).freeCtr = s.freeCtr := rfl

@[simp] theorem emit_cfg (e : Output) : (State.emit e s).cfg = s.cfg := rfl
@[simp] theorem emit_envTab (e : Output) : (State.emit e s).envTab = s.envTab := rfl
@[simp] theorem emit_dacTab (e : Output) : (State.emit e s).dacTab = s.dacTab := rfl
@[simp] theorem emit_reg (e : Output) : (State.emit e s).reg = s.reg := rfl
@[simp] theorem emit_pos (e : Output) : (State.emit e s).pos = s.pos := rfl
@[simp] theorem emit_tstep (e : Output) : (State.emit e s).tstep = s.tstep := rfl
@[simp] theorem emit_gateT (e : Output) : (State.emit e s).gateT = s.gateT := rfl
@[simp] theorem emit_gateN (e : Output) : (State.emit e s).gateN = s.gateN := rfl
@[simp] theorem emit_vol3 (e : Output) : (State.emit e s).vol3 = s.vol3 := rfl
@[simp] theorem emit_envMask3 (e : Output) : (State.emit e s).envMask3 = s.envMask3 := rfl
@[simp] theorem emit_nstep (e : Output) : (State.emit e s).nstep = s.nstep := rfl
@[simp] theorem emit_npos (e : Output) : (State.emit e s).npos = s.npos := rfl
@[simp] theorem emit_seed (e : Output) : (State.emit e s).seed = s.seed := rfl
@[simp] theorem emit_nlev (e : Output) : (State.emit e s).nlev = s.nlev := rfl
@[simp] theorem emit_estep (e : Output) : (State.emit e s).estep = s.estep := rfl
@[simp] theorem emit_epos (e : Output) : (State.emit e s).epos = s.epos := rfl
@[simp] theorem emit_shape (e : Output) : (State.emit e s).shape = s.shape := rfl
@[simp] theorem emit_shapeChanged (e : Output) : (State.emit e s).shapeChanged = s.shapeChanged := rfl
@[simp] theorem emit_ring (e : Output) : (State.emit e s).ring = s.ring := rfl
@[simp] theorem emit_wcur (e : Output) : (State.emit e s).wcur = s.wcur := rfl
@[simp] theorem emit_rcur (e : Output) : (State.emit e s).rcur = s.rcur := rfl
@[simp] theorem emit_pending (e : Output) : (State.emit e s).pending = s.pending := rfl
@[simp] theorem emit_dcHist (e : Output) : (State.emit e s).dcHist = s.dcHist := rfl
@[simp] theorem emit_dcIdx (e : Output) : (State.emit e s).dcIdx = s.dcIdx := rfl
@[simp] theorem emit_dcSum (e : Output) : (State.emit e s).dcSum = s.dcSum := rfl
@[simp] theorem emit_lp1 (e : Output) : (State.emit e s).lp1 = s.lp1 := rfl
@[simp] theorem emit_lp2 (e : Output) : (State.emit e s).lp2 = s.lp2 := rfl
@[simp] theorem emit_cyc (e : Output) : (State.emit e s).cyc = s.cyc := rfl
@[simp] theorem emit_inbox (e : Output) : (State.emit e s).inbox = s.inbox := rfl
@[simp] theorem emit_freeCtr (e : Output) : (State.emit e s).freeCtr = s.freeCtr := rfl

@[simp] theorem toneUpdate_cfg (v : Fin 3) : (toneUpdate v s).cfg = s.cfg := rfl
@[simp] theorem toneUpdate_envTab (v : Fin 3) : (toneUpdate v s).envTab = s.envTab := rfl
@[simp] theorem toneUpdate_dacTab (v : Fin 3) : (toneUpdate v s).dacTab = s.dacTab := rfl
@[simp] theorem toneUpdate_reg (v : Fin 3) : (toneUpdate v s).reg = s.reg := rfl
@[simp] theorem toneUpdate_gateT (v : Fin 3) : (toneUpdate v s).gateT = s.gateT := rfl
@[simp] theorem toneUpdate_gateN (v : Fin 3) : (toneUpdate v s).gateN = s.gateN := rfl
@[simp] theorem toneUpdate_vol3 (v : Fin 3) : (toneUpdate v s).vol3 = s.vol3 := rfl
@[simp] theorem toneUpdate_envMask3 (v : Fin 3) : (toneUpdate v s).envMask3 = s.envMask3 := rfl
@[simp] theorem toneUpdate_nstep (v : Fin 3) : (toneUpdate v s).nstep = s.nstep := rfl
@[simp] theorem toneUpdate_npos (v : Fin 3) : (toneUpdate v s).npos = s.npos := rfl
@[simp] theorem toneUpdate_seed (v : Fin 3) : (toneUpdate v s).seed = s.seed := rfl
@[simp] theorem toneUpdate_nlev (v : Fin 3) : (toneUpdate v s).nlev = s.nlev := rfl
@[simp] theorem toneUpdate_estep (v : Fin 3) : (toneUpdate v s).estep = s.estep := rfl
@[simp] theorem toneUpdate_epos (v : Fin 3) : (toneUpdate v s).epos = s.epos := rfl
@[simp] theorem toneUpdate_shape (v : Fin 3) : (toneUpdate v s).shape = s.shape := rfl
@[simp] theorem toneUpdate_shapeChanged (v : Fin 3) : (toneUpdate v s).shapeChanged = s.shapeChanged := rfl
@[simp] theorem toneUpdate_ring (v : Fin 3) : (toneUpdate v s).ring = s.ring := rfl
@[simp] theorem toneUpdate_wcur (v : Fin 3) : (toneUpdate v s).wcur = s.wcur := rfl
@[simp] theorem toneUpdate_rcur (v : Fin 3) : (toneUpdate v s).rcur = s.rcur := rfl
@[simp] theorem toneUpdate_pending (v : Fin 3) : (toneUpdate v s).pending = s.pending := rfl
@[simp] theorem toneUpdate_dcHist (v : Fin 3) : (toneUpdate v s).dcHist = s.dcHist := rfl
@[simp] theorem toneUpdate_dcIdx (v : Fin 3) : (toneUpdate v s).dcIdx = s.dcIdx := rfl
@[simp] theorem toneUpdate_dcSum (v : Fin 3) : (toneUpdate v s).dcSum = s.dcSum := rfl
@[simp] theorem toneUpdate_lp1 (v : Fin 3) : (toneUpdate v s).lp1 = s.lp1 := rfl
@[simp] theorem toneUpdate_lp2 (v : Fin 3) : (toneUpdate v s).lp2 = s.lp2 := rfl
@[simp] theorem toneUpdate_cyc (v : Fin 3) : (toneUpdate v s).cyc = s.cyc := rfl
@[simp] theorem toneUpdate_inbox (v : Fin 3) : (toneUpdate v s).inbox = s.inbox := rfl
@[simp] theorem toneUpdate_outbox (v : Fin 3) : (toneUpdate v s).outbox = s.outbox := rfl
@[simp] theorem toneUpdate_freeCtr (v : Fin 3) : (toneUpdate v s).freeCtr = s.freeCtr := rfl

@[simp] theorem noiseUpdate_cfg : (noiseUpdate s).cfg = s.cfg := rfl
@[simp] theorem noiseUpdate_envTab : (noiseUpdate s).envTab = s.envTab := rfl
@[simp] theorem noiseUpdate_dacTab : (noiseUpdate s).dacTab = s.dacTab := rfl
@[simp] theorem noiseUpdate_reg : (noiseUpdate s).reg = s.reg := rfl
@[simp] theorem noiseUpdate_pos : (noiseUpdate s).pos = s.pos := rfl
@[simp] theorem noiseUpdate_tstep : (noiseUpdate s).tstep = s.tstep := rfl
@[simp] theorem noiseUpdate_gateT : (noiseUpdate s).gateT = s.gateT := rfl
@[simp] theorem noiseUpdate_gateN : (noiseUpdate s).gateN = s.gateN := rfl
@[simp] theorem noiseUpdate_vol3 : (noiseUpdate s).vol3 = s.vol3 := rfl
@[simp] theorem noiseUpdate_envMask3 : (noiseUpdate s).envMask3 = s.envMask3 := rfl
@[simp] theorem noiseUpdate_seed : (noiseUpdate s).seed = s.seed := rfl
@[simp] theorem noiseUpdate_estep : (noiseUpdate s).estep = s.estep := rfl
@[simp] theorem noiseUpdate_epos : (noiseUpdate s).epos = s.epos := rfl
@[simp] theorem noiseUpdate_shape : (noiseUpdate s).shape = s.shape := rfl
@[simp] theorem noiseUpdate_shapeChanged : (noiseUpdate s).shapeChanged = s.shapeChanged := rfl
@[simp] theorem noiseUpdate_ring : (noiseUpdate s).ring = s.ring := rfl
@[simp] theorem noiseUpdate_wcur : (noiseUpdate s).wcur = s.wcur := rfl
@[simp] theorem noiseUpdate_rcur : (noiseUpdate s).rcur = s.rcur := rfl
@[simp] theorem noiseUpdate_pending : (noiseUpdate s).pending = s.pending := rfl
@[simp] theorem noiseUpdate_dcHist : (noiseUpdate s).dcHist = s.dcHist := rfl
@[simp] theorem noiseUpdate_dcIdx : (noiseUpdate s).dcIdx = s.dcIdx := rfl
@[simp] theorem noiseUpdate_dcSum : (noiseUpdate s).dcSum = s.dcSum := rfl
@[simp] theorem noiseUpdate_lp1 : (noiseUpdate s).lp1 = s.lp1 := rfl
@[simp] theorem noiseUpdate_lp2 : (noiseUpdate s).lp2 = s.lp2 := rfl
@[simp] theorem noiseUpdate_cyc : (noiseUpdate s).cyc = s.cyc := rfl
@[simp] theorem noiseUpdate_inbox : (noiseUpdate s).inbox = s.inbox := rfl
@[simp] theorem noiseUpdate_outbox : (noiseUpdate s).outbox = s.outbox := rfl
@[simp] theorem noiseUpdate_freeCtr : (noiseUpdate s).freeCtr = s.freeCtr := rfl

@[simp] theorem gatesUpdate_cfg : (gatesUpdate s).cfg = s.cfg := rfl
@[simp] theorem gatesUpdate_envTab : (gatesUpdate s).envTab = s.envTab := rfl
@[simp] theorem gatesUpdate_dacTab : (gatesUpdate s).dacTab = s.dacTab := rfl
@[simp] theorem gatesUpdate_reg : (gatesUpdate s).reg = s.reg := rfl
@[simp] theorem gatesUpdate_pos : (gatesUpdate s).pos = s.pos := rfl
@[simp] theorem gatesUpdate_tstep : (gatesUpdate s).tstep = s.tstep := rfl
@[simp] theorem gatesUpdate_vol3 : (gatesUpdate s).vol3 = s.vol3 := rfl
@[simp] theorem gatesUpdate_envMask3 : (gatesUpdate s).envMask3 = s.envMask3 := rfl
@[simp] theorem gatesUpdate_nstep : (gatesUpdate s).nstep = s.nstep := rfl
@[simp] theorem gatesUpdate_npos : (gatesUpdate s).npos = s.npos := rfl
@[simp] theorem gatesUpdate_seed : (gatesUpdate s).seed = s.seed := rfl
@[simp] theorem gatesUpdate_nlev : (gatesUpdate s).nlev = s.nlev := rfl
@[simp] theorem gatesUpdate_estep : (gatesUpdate s).estep = s.estep := rfl
@[simp] theorem gatesUpdate_epos : (gatesUpdate s).epos = s.epos := rfl
@[simp] theorem gatesUpdate_shape : (gatesUpdate s).shape = s.shape := rfl
@[simp] theorem gatesUpdate_shapeChanged : (gatesUpdate s).shapeChanged = s.shapeChanged := rfl
@[simp] theorem gatesUpdate_ring : (gatesUpdate s).ring = s.ring := rfl
@[simp] theorem gatesUpdate_wcur : (gatesUpdate s).wcur = s.wcur := rfl
@[simp] theorem gatesUpdate_rcur : (gatesUpdate s).rcur = s.rcur := rfl
@[simp] theorem gatesUpdate_pending : (gatesUpdate s).pending = s.pending := rfl
@[simp] theorem gatesUpdate_dcHist : (gatesUpdate s).dcHist = s.dcHist := rfl
@[simp] theorem gatesUpdate_dcIdx : (gatesUpdate s).dcIdx = s.dcIdx := rfl
@[simp] theorem gatesUpdate_dcSum : (gatesUpdate s).dcSum = s.dcSum := rfl
@[simp] theorem gatesUpdate_lp1 : (gatesUpdate s).lp1 = s.lp1 := rfl
@[simp] theorem gatesUpdate_lp2 : (gatesUpdate s).lp2 = s.lp2 := rfl
@[simp] theorem gatesUpdate_cyc : (gatesUpdate s).cyc = s.cyc := rfl
@[simp] theorem gatesUpdate_inbox : (gatesUpdate s).inbox = s.inbox := rfl
@[simp] theorem gatesUpdate_outbox : (gatesUpdate s).outbox = s.outbox := rfl
@[simp] theorem gatesUpdate_freeCtr : (gatesUpdate s).freeCtr = s.freeCtr := rfl

@[simp] theorem ampUpdate_cfg (v : Fin 3) : (ampUpdate v s).cfg = s.cfg := rfl
@[simp] theorem ampUpdate_envTab (v : Fin 3) : (ampUpdate v s).envTab = s.envTab := rfl
@[simp] theorem ampUpdate_dacTab (v : Fin 3) : (ampUpdate v s).dacTab = s.dacTab := rfl
@[simp] theorem ampUpdate_reg (v : Fin 3) : (ampUpdate v s).reg = s.reg := rfl
@[simp] theorem ampUpdate_pos (v : Fin 3) : (ampUpdate v s).pos = s.pos := rfl
@[simp] theorem ampUpdate_tstep (v : Fin 3) : (ampUpdate v s).tstep = s.tstep := rfl
@[simp] theorem ampUpdate_gateT (v : Fin 3) : (ampUpdate v s).gateT = s.gateT := rfl
@[simp] theorem ampUpdate_gateN (v : Fin 3) : (ampUpdate v s).gateN = s.gateN := rfl
@[simp] theorem ampUpdate_nstep (v : Fin 3) : (ampUpdate v s).nstep = s.nstep := rfl
@[simp] theorem ampUpdate_npos (v : Fin 3) : (ampUpdate v s).npos = s.npos := rfl
@[simp] theorem ampUpdate_seed (v : Fin 3) : (ampUpdate v s).seed = s.seed := rfl
@[simp] theorem ampUpdate_nlev (v : Fin 3) : (ampUpdate v s).nlev = s.nlev := rfl
@[simp] theorem ampUpdate_estep (v : Fin 3) : (ampUpdate v s).estep = s.estep := rfl
@[simp] theorem ampUpdate_epos (v : Fin 3) : (ampUpdate v s).epos = s.epos := rfl
@[simp] theorem ampUpdate_shape (v : Fin 3) : (ampUpdate v s).shape = s.shape := rfl
@[simp] theorem ampUpdate_shapeChanged (v : Fin 3) : (ampUpdate v s).shapeChanged = s.shapeChanged := rfl
@[simp] theorem ampUpdate_ring (v : Fin 3) : (ampUpdate v s).ring = s.ring := rfl
@[simp] theorem ampUpdate_wcur (v : Fin 3) : (ampUpdate v s).wcur = s.wcur := rfl
@[simp] theorem ampUpdate_rcur (v : Fin 3) : (ampUpdate v s).rcur = s.rcur := rfl
@[simp] theorem ampUpdate_pending (v : Fin 3) : (ampUpdate v s).pending = s.pending := rfl
@[simp] theorem ampUpdate_dcHist (v : Fin 3) : (ampUpdate v s).dcHist = s.dcHist := rfl
@[simp] theorem ampUpdate_dcIdx (v : Fin 3) : (ampUpdate v s).dcIdx = s.dcIdx := rfl
@[simp] theorem ampUpdate_dcSum (v : Fin 3) : (ampUpdate v s).dcSum = s.dcSum := rfl
@[simp] theorem ampUpdate_lp1 (v : Fin 3) : (ampUpdate v s).lp1 = s.lp1 := rfl
@[simp] theorem ampUpdate_lp2 (v : Fin 3) : (ampUpdate v s).lp2 = s.lp2 := rfl
@[simp] theorem ampUpdate_cyc (v : Fin 3) : (ampUpdate v s).cyc = s.cyc := rfl
@[simp] theorem ampUpdate_inbox (v : Fin 3) : (ampUpdate v s).inbox = s.inbox := rfl
@[simp] theorem ampUpdate_outbox (v : Fin 3) : (ampUpdate v s).outbox = s.outbox := rfl
@[simp] theorem ampUpdate_freeCtr (v : Fin 3) : (ampUpdate v s).freeCtr = s.freeCtr := rfl

@[simp] theorem envUpdate_cfg : (envUpdate s).cfg = s.cfg := rfl
@[simp] theorem envUpdate_envTab : (envUpdate s).envTab = s.envTab := rfl
@[simp] theorem envUpdate_dacTab : (envUpdate s).dacTab = s.dacTab := rfl
@[simp] theorem envUpdate_reg : (envUpdate s).reg = s.reg := rfl
@[simp] theorem envUpdate_pos : (envUpdate s).pos = s.pos := rfl
@[simp] theorem envUpdate_tstep : (envUpdate s).tstep = s.tstep := rfl
@[simp] theorem envUpdate_gateT : (envUpdate s).gateT = s.gateT := rfl
@[simp] theorem envUpdate_gateN : (envUpdate s).gateN = s.gateN := rfl
@[simp] theorem envUpdate_vol3 : (envUpdate s).vol3 = s.vol3 := rfl
@[simp] theorem envUpdate_envMask3 : (envUpdate s).envMask3 = s.envMask3 := rfl
@[simp] theorem envUpdate_nstep : (envUpdate s).nstep = s.nstep := rfl
@[simp] theorem envUpdate_npos : (envUpdate s).npos = s.npos := rfl
@[simp] theorem envUpdate_seed : (envUpdate s).seed = s.seed := rfl
@[simp] theorem envUpdate_nlev : (envUpdate s).nlev = s.nlev := rfl
@[simp] theorem envUpdate_epos : (envUpdate s).epos = s.epos := rfl
@[simp] theorem envUpdate_shape : (envUpdate s).shape = s.shape := rfl
@[simp] theorem envUpdate_shapeChanged : (envUpdate s).shapeChanged = s.shapeChanged := rfl
@[simp] theorem envUpdate_ring : (envUpdate s).ring = s.ring := rfl
@[simp] theorem envUpdate_wcur : (envUpdate s).wcur = s.wcur := rfl
@[simp] theorem envUpdate_rcur : (envUpdate s).rcur = s.rcur := rfl
@[simp] theorem envUpdate_pending : (envUpdate s).pending = s.pending := rfl
@[simp] theorem envUpdate_dcHist : (envUpdate s).dcHist = s.dcHist := rfl
@[simp] theorem envUpdate_dcIdx : (envUpdate s).dcIdx = s.dcIdx := rfl
@[simp] theorem envUpdate_dcSum : (envUpdate s).dcSum = s.dcSum := rfl
@[simp] theorem envUpdate_lp1 : (envUpdate s).lp1 = s.lp1 := rfl
@[simp] theorem envUpdate_lp2 : (envUpdate s).lp2 = s.lp2 := rfl
@[simp] theorem envUpdate_cyc : (envUpdate s).cyc = s.cyc := rfl
@[simp] theorem envUpdate_inbox : (envUpdate s).inbox = s.inbox := rfl
@[simp] theorem envUpdate_outbox : (envUpdate s).outbox = s.outbox := rfl
@[simp] theorem envUpdate_freeCtr : (envUpdate s).freeCtr = s.freeCtr := rfl

@[simp] theorem shapeUpdate_cfg : (shapeUpdate s).cfg = s.cfg := rfl
@[simp] theorem shapeUpdate_envTab : (shapeUpdate s).envTab = s.envTab := rfl
@[simp] theorem shapeUpdate_dacTab : (shapeUpdate s).dacTab = s.dacTab := rfl
@[simp] theorem shapeUpdate_reg : (shapeUpdate s).reg = s.reg := rfl
@[simp] theorem shapeUpdate_pos : (shapeUpdate s).pos = s.pos := rfl
@[simp] theorem shapeUpdate_tstep : (shapeUpdate s).tstep = s.tstep := rfl
@[simp] theorem shapeUpdate_gateT : (shapeUpdate s).gateT = s.gateT := rfl
@[simp] theorem shapeUpdate_gateN : (shapeUpdate s).gateN = s.gateN := rfl
@[simp] theorem shapeUpdate_vol3 : (shapeUpdate s).vol3 = s.vol3 := rfl
@[simp] theorem shapeUpdate_envMask3 : (shapeUpdate s).envMask3 = s.envMask3 := rfl
@[simp] theorem shapeUpdate_nstep : (shapeUpdate s).nstep = s.nstep := rfl
@[simp] theorem shapeUpdate_npos : (shapeUpdate s).npos = s.npos := rfl
@[simp] theorem shapeUpdate_seed : (shapeUpdate s).seed = s.seed := rfl
@[simp] theorem shapeUpdate_nlev : (shapeUpdate s).nlev = s.nlev := rfl
@[simp] theorem shapeUpdate_estep : (shapeUpdate s).estep = s.estep := rfl
@[simp] theorem shapeUpdate_ring : (shapeUpdate s).ring = s.ring := rfl
@[simp] theorem shapeUpdate_wcur : (shapeUpdate s).wcur = s.wcur := rfl
@[simp] theorem shapeUpdate_rcur : (shapeUpdate s).rcur = s.rcur := rfl
@[simp] theorem shapeUpdate_pending : (shapeUpdate s).pending = s.pending := rfl
@[simp] theorem shapeUpdate_dcHist : (shapeUpdate s).dcHist = s.dcHist := rfl
@[simp] theorem shapeUpdate_dcIdx : (shapeUpdate s).dcIdx = s.dcIdx := rfl
@[simp] theorem shapeUpdate_dcSum : (shapeUpdate s).dcSum = s.dcSum := rfl
@[simp] theorem shapeUpdate_lp1 : (shapeUpdate s).lp1 = s.lp1 := rfl
@[simp] theorem shapeUpdate_lp2 : (shapeUpdate s).lp2 = s.lp2 := rfl
@[simp] theorem shapeUpdate_cyc : (shapeUpdate s).cyc = s.cyc := rfl
@[simp] theorem shapeUpdate_inbox : (shapeUpdate s).inbox = s.inbox := rfl
@[simp] theorem shapeUpdate_outbox : (shapeUpdate s).outbox = s.outbox := rfl
@[simp] theorem shapeUpdate_freeCtr : (shapeUpdate s).freeCtr = s.freeCtr := rfl

@[simp] theorem noiseTick_cfg : (noiseTick s).cfg = s.cfg := by unfold noiseTick; split <;> rfl
@[simp] theorem noiseTick_envTab : (noiseTick s).envTab = s.envTab := by unfold noiseTick; split <;> rfl
@[simp] theorem noiseTick_dacTab : (noiseTick s).dacTab = s.dacTab := by unfold noiseTick; split <;> rfl
@[simp] theorem noiseTick_reg : (noiseTick s).reg = s.reg := by unfold noiseTick; split <;> rfl
@[simp] theorem noiseTick_pos : (noiseTick s).pos = s.pos := by unfold noiseTick; split <;> rfl
@[simp] theorem noiseTick_tstep : (noiseTick s).tstep = s.tstep := by unfold noiseTick; split <;> rfl
@[simp] theorem noiseTick_gateT : (noiseTick s).gateT = s.gateT := by unfold noiseTick; split <;> rfl
@[simp] theorem noiseTick_gateN : (noiseTick s).gateN = s.gateN := by unfold noiseTick; split <;> rfl
@[simp] theorem noiseTick_vol3 : (noiseTick s).vol3 = s.vol3 := by unfold noiseTick; split <;> rfl
@[simp] theorem noiseTick_envMask3 : (noiseTick s).envMask3 = s.envMask3 := by unfold noiseTick; split <;> rfl
@[simp] theorem noiseTick_nstep : (noiseTick s).nstep = s.nstep := by unfold noiseTick; split <;> rfl
@[simp] theorem noiseTick_estep : (noiseTick s).estep = s.estep := by unfold noiseTick; split <;> rfl
@[simp] theorem noiseTick_epos : (noiseTick s).epos = s.epos := by unfold noiseTick; split <;> rfl
@[simp] theorem noiseTick_shape : (noiseTick s).shape = s.shape := by unfold noiseTick; split <;> rfl
@[simp] theorem noiseTick_shapeChanged : (noiseTick s).shapeChanged = s.shapeChanged := by unfold noiseTick; split <;> rfl
@[simp] theorem noiseTick_ring : (noiseTick s).ring = s.ring := by unfold noiseTick; split <;> rfl
@[simp] theorem noiseTick_wcur : (noiseTick s).wcur = s.wcur := by unfold noiseTick; split <;> rfl
@[simp] theorem noiseTick_rcur : (noiseTick s).rcur = s.rcur := by unfold noiseTick; split <;> rfl
@[simp] theorem noiseTick_pending : (noiseTick s).pending = s.pending := by unfold noiseTick; split <;> rfl
@[simp] theorem noiseTick_dcHist : (noiseTick s).dcHist = s.dcHist := by unfold noiseTick; split <;> rfl
@[simp] theorem noiseTick_dcIdx : (noiseTick s).dcIdx = s.dcIdx := by unfold noiseTick; split <;> rfl
@[simp] theorem noiseTick_dcSum : (noiseTick s).dcSum = s.dcSum := by unfold noiseTick; split <;> rfl
@[simp] theorem noiseTick_lp1 : (noiseTick s).lp1 = s.lp1 := by unfold noiseTick; split <;> rfl
@[simp] theorem noiseTick_lp2 : (noiseTick s).lp2 = s.lp2 := by unfold noiseTick; split <;> rfl
@[simp] theorem noiseTick_cyc : (noiseTick s).cyc = s.cyc := by unfold noiseTick; split <;> rfl
@[simp] theorem noiseTick_inbox : (noiseTick s).inbox = s.inbox := by unfold noiseTick; split <;> rfl
@[simp] theorem noiseTick_outbox : (noiseTick s).outbox = s.outbox := by unfold noiseTick; split <;> rfl
@[simp] theorem noiseTick_freeCtr : (noiseTick s).freeCtr = s.freeCtr := by unfold noiseTick; split <;> rfl

@[simp] theorem noiseAdvance_cfg : (noiseAdvance s).cfg = s.cfg := rfl
@[simp] theorem noiseAdvance_envTab : (noiseAdvance s).envTab = s.envTab := rfl
@[simp] theorem noiseAdvance_dacTab : (noiseAdvance s).dacTab = s.dacTab := rfl
@[simp] theorem noiseAdvance_reg : (noiseAdvance s).reg = s.reg := rfl
@[simp] theorem noiseAdvance_pos : (noiseAdvance s).pos = s.pos := rfl
@[simp] theorem noiseAdvance_tstep : (noiseAdvance s).tstep = s.tstep := rfl
@[simp] theorem noiseAdvance_gateT : (noiseAdvance s).gateT = s.gateT := rfl
@[simp] theorem noiseAdvance_gateN : (noiseAdvance s).gateN = s.gateN := rfl
@[simp] theorem noiseAdvance_vol3 : (noiseAdvance s).vol3 = s.vol3 := rfl
@[simp] theorem noiseAdvance_envMask3 : (noiseAdvance s).envMask3 = s.envMask3 := rfl
@[simp] theorem noiseAdvance_nstep : (noiseAdvance s).nstep = s.nstep := rfl
@[simp] theorem noiseAdvance_seed : (noiseAdvance s).seed = s.seed := rfl
@[simp] theorem noiseAdvance_nlev : (noiseAdvance s).nlev = s.nlev := rfl
@[simp] theorem noiseAdvance_estep : (noiseAdvance s).estep = s.estep := rfl
@[simp] theorem noiseAdvance_epos : (noiseAdvance s).epos = s.epos := rfl
@[simp] theorem noiseAdvance_shape : (noiseAdvance s).shape = s.shape := rfl
@[simp] theorem noiseAdvance_shapeChanged : (noiseAdvance s).shapeChanged = s.shapeChanged := rfl
@[simp] theorem noiseAdvance_ring : (noiseAdvance s).ring = s.ring := rfl
@[simp] theorem noiseAdvance_wcur : (noiseAdvance s).wcur = s.wcur := rfl
@[simp] theorem noiseAdvance_rcur : (noiseAdvance s).rcur = s.rcur := rfl
@[simp] theorem noiseAdvance_pending : (noiseAdvance s).pending = s.pending := rfl
@[simp] theorem noiseAdvance_dcHist : (noiseAdvance s).dcHist = s.dcHist := rfl
@[simp] theorem noiseAdvance_dcIdx : (noiseAdvance s).dcIdx = s.dcIdx := rfl
@[simp] theorem noiseAdvance_dcSum : (noiseAdvance s).dcSum = s.dcSum := rfl
@[simp] theorem noiseAdvance_lp1 : (noiseAdvance s).lp1 = s.lp1 := rfl
@[simp] theorem noiseAdvance_lp2 : (noiseAdvance s).lp2 = s.lp2 := rfl
@[simp] theorem noiseAdvance_cyc : (noiseAdvance s).cyc = s.cyc := rfl
@[simp] theorem noiseAdvance_inbox : (noiseAdvance s).inbox = s.inbox := rfl
@[simp] theorem noiseAdvance_outbox : (noiseAdvance s).outbox = s.outbox := rfl
@[simp] theorem noiseAdvance_freeCtr : (noiseAdvance s).freeCtr = s.freeCtr := rfl

@[simp] theorem toneAdvance_cfg : (toneAdvance s).cfg = s.cfg := rfl
@[simp] theorem toneAdvance_envTab : (toneAdvance s).envTab = s.envTab := rfl
@[simp] theorem toneAdvance_dacTab : (toneAdvance s).dacTab = s.dacTab := rfl
@[simp] theorem toneAdvance_reg : (toneAdvance s).reg = s.reg := rfl
@[simp] theorem toneAdvance_tstep : (toneAdvance s).tstep = s.tstep := rfl
@[simp] theorem toneAdvance_gateT : (toneAdvance s).gateT = s.gateT := rfl
@[simp] theorem toneAdvance_gateN : (toneAdvance s).gateN = s.gateN := rfl
@[simp] theorem toneAdvance_vol3 : (toneAdvance s).vol3 = s.vol3 := rfl
@[simp] theorem toneAdvance_envMask3 : (toneAdvance s).envMask3 = s.envMask3 := rfl
@[simp] theorem toneAdvance_nstep : (toneAdvance s).nstep = s.nstep := rfl
@[simp] theorem toneAdvance_npos : (toneAdvance s).npos = s.npos := rfl
@[simp] theorem toneAdvance_seed : (toneAdvance s).seed = s.seed := rfl
@[simp] theorem toneAdvance_nlev : (toneAdvance s).nlev = s.nlev := rfl
@[simp] theorem toneAdvance_estep : (toneAdvance s).estep = s.estep := rfl
@[simp] theorem toneAdvance_epos : (toneAdvance s).epos = s.epos := rfl
@[simp] theorem toneAdvance_shape : (toneAdvance s).shape = s.shape := rfl
@[simp] theorem toneAdvance_shapeChanged : (toneAdvance s).shapeChanged = s.shapeChanged := rfl
@[simp] theorem toneAdvance_ring : (toneAdvance s).ring = s.ring := rfl
@[simp] theorem toneAdvance_wcur : (toneAdvance s).wcur = s.wcur := rfl
@[simp] theorem toneAdvance_rcur : (toneAdvance s).rcur = s.rcur := rfl
@[simp] theorem toneAdvance_pending : (toneAdvance s).pending = s.pending := rfl
@[simp] theorem toneAdvance_dcHist : (toneAdvance s).dcHist = s.dcHist := rfl
@[simp] theorem toneAdvance_dcIdx : (toneAdvance s).dcIdx = s.dcIdx := rfl
@[simp] theorem toneAdvance_dcSum : (toneAdvance s).dcSum = s.dcSum := rfl
@[simp] theorem toneAdvance_lp1 : (toneAdvance s).lp1 = s.lp1 := rfl
@[simp] theorem toneAdvance_lp2 : (toneAdvance s).lp2 = s.lp2 := rfl
@[simp] theorem toneAdvance_cyc : (toneAdvance s).cyc = s.cyc := rfl
@[simp] theorem toneAdvance_inbox : (toneAdvance s).inbox = s.inbox := rfl
@[simp] theorem toneAdvance_outbox : (toneAdvance s).outbox = s.outbox := rfl
@[simp] theorem toneAdvance_freeCtr : (toneAdvance s).freeCtr = s.freeCtr := rfl

@[simp] theorem envAdvance_cfg : (envAdvance s).cfg = s.cfg := rfl
@[simp] theorem envAdvance_envTab : (envAdvance s).envTab = s.envTab := rfl
@[simp] theorem envAdvance_dacTab : (envAdvance s).dacTab = s.dacTab := rfl
@[simp] theorem envAdvance_reg : (envAdvance s).reg = s.reg := rfl
@[simp] theorem envAdvance_pos : (envAdvance s).pos = s.pos := rfl
@[simp] theorem envAdvance_tstep : (envAdvance s).tstep = s.tstep := rfl
@[simp] theorem envAdvance_gateT : (envAdvance s).gateT = s.gateT := rfl
@[simp] theorem envAdvance_gateN : (envAdvance s).gateN = s.gateN := rfl
@[simp] theorem envAdvance_vol3 : (envAdvance s).vol3 = s.vol3 := rfl
@[simp] theorem envAdvance_envMask3 : (envAdvance s).envMask3 = s.envMask3 := rfl
@[simp] theorem envAdvance_nstep : (envAdvance s).nstep = s.nstep := rfl
@[simp] theorem envAdvance_npos : (envAdvance s).npos = s.npos := rfl
@[simp] theorem envAdvance_seed : (envAdvance s).seed = s.seed := rfl
@[simp] theorem envAdvance_nlev : (envAdvance s).nlev = s.nlev := rfl
@[simp] theorem envAdvance_estep : (envAdvance s).estep = s.estep := rfl
@[simp] theorem envAdvance_shape : (envAdvance s).shape = s.shape := rfl
@[simp] theorem envAdvance_shapeChanged : (envAdvance s).shapeChanged = s.shapeChanged := rfl
@[simp] theorem envAdvance_ring : (envAdvance s).ring = s.ring := rfl
@[simp] theorem envAdvance_wcur : (envAdvance s).wcur = s.wcur := rfl
@[simp] theorem envAdvance_rcur : (envAdvance s).rcur = s.rcur := rfl
@[simp] theorem envAdvance_pending : (envAdvance s).pending = s.pending := rfl
@[simp] theorem envAdvance_dcHist : (envAdvance s).dcHist = s.dcHist := rfl
@[simp] theorem envAdvance_dcIdx : (envAdvance s).dcIdx = s.dcIdx := rfl
@[simp] theorem envAdvance_dcSum : (envAdvance s).dcSum = s.dcSum := rfl
@[simp] theorem envAdvance_lp1 : (envAdvance s).lp1 = s.lp1 := rfl
@[simp] theorem envAdvance_lp2 : (envAdvance s).lp2 = s.lp2 := rfl
@[simp] theorem envAdvance_cyc : (envAdvance s).cyc = s.cyc := rfl
@[simp] theorem envAdvance_inbox : (envAdvance s).inbox = s.inbox := rfl
@[simp] theorem envAdvance_outbox : (envAdvance s).outbox = s.outbox := rfl
@[simp] theorem envAdvance_freeCtr : (envAdvance s).freeCtr = s.freeCtr := rfl

@[simp] theorem dcUpdate_cfg (raw : Sample) : (dcUpdate raw s).cfg = s.cfg := rfl
@[simp] theorem dcUpdate_envTab (raw : Sample) : (dcUpdate raw s).envTab = s.envTab := rfl
@[simp] theorem dcUpdate_dacTab (raw : Sample) : (dcUpdate raw s).dacTab = s.dacTab := rfl
@[simp] theorem dcUpdate_reg (raw : Sample) : (dcUpdate raw s).reg = s.reg := rfl
@[simp] theorem dcUpdate_pos (raw : Sample) : (dcUpdate raw s).pos = s.pos := rfl
@[simp] theorem dcUpdate_tstep (raw : Sample) : (dcUpdate raw s).tstep = s.tstep := rfl
@[simp] theorem dcUpdate_gateT (raw : Sample) : (dcUpdate raw s).gateT = s.gateT := rfl
@[simp] theorem dcUpdate_gateN (raw : Sample) : (dcUpdate raw s).gateN = s.gateN := rfl
@[simp] theorem dcUpdate_vol3 (raw : Sample) : (dcUpdate raw s).vol3 = s.vol3 := rfl
@[simp] theorem dcUpdate_envMask3 (raw : Sample) : (dcUpdate raw s).envMask3 = s.envMask3 := rfl
@[simp] theorem dcUpdate_nstep (raw : Sample) : (dcUpdate raw s).nstep = s.nstep := rfl
@[simp] theorem dcUpdate_npos (raw : Sample) : (dcUpdate raw s).npos = s.npos := rfl
@[simp] theorem dcUpdate_seed (raw : Sample) : (dcUpdate raw s).seed = s.seed := rfl
@[simp] theorem dcUpdate_nlev (raw : Sample) : (dcUpdate raw s).nlev = s.nlev := rfl
@[simp] theorem dcUpdate_estep (raw : Sample) : (dcUpdate raw s).estep = s.estep := rfl
@[simp] theorem dcUpdate_epos (raw : Sample) : (dcUpdate raw s).epos = s.epos := rfl
@[simp] theorem dcUpdate_shape (raw : Sample) : (dcUpdate raw s).shape = s.shape := rfl
@[simp] theorem dcUpdate_shapeChanged (raw : Sample) : (dcUpdate raw s).shapeChanged = s.shapeChanged := rfl
@[simp] theorem dcUpdate_ring (raw : Sample) : (dcUpdate raw s).ring = s.ring := rfl
@[simp] theorem dcUpdate_wcur (raw : Sample) : (dcUpdate raw s).wcur = s.wcur := rfl
@[simp] theorem dcUpdate_rcur (raw : Sample) : (dcUpdate raw s).rcur = s.rcur := rfl
@[simp] theorem dcUpdate_pending (raw : Sample) : (dcUpdate raw s).pending = s.pending := rfl
@[simp] theorem dcUpdate_lp1 (raw : Sample) : (dcUpdate raw s).lp1 = s.lp1 := rfl
@[simp] theorem dcUpdate_lp2 (raw : Sample) : (dcUpdate raw s).lp2 = s.lp2 := rfl
@[simp] theorem dcUpdate_cyc (raw : Sample) : (dcUpdate raw s).cyc = s.cyc := rfl
@[simp] theorem dcUpdate_inbox (raw : Sample) : (dcUpdate raw s).inbox = s.inbox := rfl
@[simp] theorem dcUpdate_outbox (raw : Sample) : (dcUpdate raw s).outbox = s.outbox := rfl
@[simp] theorem dcUpdate_freeCtr (raw : Sample) : (dcUpdate raw s).freeCtr = s.freeCtr := rfl

end Sys2Proof.Machine
end

