-- ==== Sys2Proof/Laws/Ops.lean ====
section
/-!
SUPPORT. One lemma per shared operation: what it answers.  What an operation leaves alone stands in
`Laws/State.lean`.
-/

namespace Sys2Proof.Machine

variable (s : State)

/-! ### Registers -/

/-- Masking a byte twice is masking it once (R21). -/
theorem mask_idem (r : Fin 14) (d : Byte) : d &&& regMask[r] &&& regMask[r] = d &&& regMask[r] := by
  rw [BitVec.and_assoc, BitVec.and_self]

@[simp] theorem putReg_reg (r : Fin 14) (d : Byte) : (s.putReg r d).reg = s.reg.set r (d &&& regMask[r]) := rfl

/-- A register read after a register write (R117). -/
theorem putReg_get (r : Fin 14) (d : Byte) (i : Nat) (h : i < 14) :
    (s.putReg r d).reg[i] = if r.val = i then d &&& regMask[r] else s.reg[i] := by
  simp [Vector.getElem_set]

/-- Every register write keeps the masks (R21). -/
theorem putReg_masked (h : RegsMasked s) (r : Fin 14) (d : Byte) : RegsMasked (s.putReg r d) := by
  intro i
  have e := putReg_get s r d i.val i.isLt
  simp only [Fin.getElem_fin] at *
  rw [e]
  split
  · next hri =>
    have : r = i := Fin.ext hri
    subst this
    exact mask_idem r d
  · exact h i

/-- The byte written matters only under the mask (R76). -/
theorem putReg_mask (r : Fin 14) (d : Byte) : s.putReg r (d &&& regMask[r]) = s.putReg r d := by
  simp only [State.putReg, mask_idem]

/-! ### Generator updates -/

theorem toneUpdate_tstep (v : Fin 3) :
    (toneUpdate v s).tstep = s.tstep.set v (toneStep s.cfg s.reg[2 * v.val + 1] s.reg[2 * v.val]) := rfl

theorem toneUpdate_pos (v : Fin 3) :
    (toneUpdate v s).pos =
      if toneStep s.cfg s.reg[2 * v.val + 1] s.reg[2 * v.val] = 0 then s.pos.set v sentinel else s.pos := rfl

theorem noiseUpdate_spec :
    (noiseUpdate s).nstep = noiseStep s.cfg s.reg[6] ∧
    (noiseUpdate s).npos = (if noiseStep s.cfg s.reg[6] = 0 then 0 else s.npos) ∧
    (noiseUpdate s).nlev = (if noiseStep s.cfg s.reg[6] = 0 then 0xFFFF else s.nlev) := ⟨rfl, rfl, rfl⟩

theorem gatesUpdate_gateT (v : Fin 3) : (gatesUpdate s).gateT[v] = toneGate s.reg[7] v := by
  fin_cases v <;> rfl

theorem gatesUpdate_gateN (v : Fin 3) : (gatesUpdate s).gateN[v] = noiseGate s.reg[7] v := by
  fin_cases v <;> rfl

theorem ampUpdate_spec (v : Fin 3) :
    (ampUpdate v s).envMask3 = ampEnvWord v s.reg[8 + v.val] s.envMask3 ∧
    (ampUpdate v s).vol3 = ampVolWord v s.reg[8 + v.val] s.vol3 := ⟨rfl, rfl⟩

theorem envUpdate_estep : (envUpdate s).estep = envStep s.cfg s.reg[12] s.reg[11] := rfl

theorem shapeUpdate_spec :
    (shapeUpdate s).shape = s.reg[13].extractLsb' 0 4 ∧ (shapeUpdate s).epos = 0 ∧
    (shapeUpdate s).shapeChanged = true := ⟨rfl, rfl, rfl⟩

/-! ### Voice fields of a three-voice word (R11) -/

/-- Two words with equal fields are equal. -/
theorem word3_ext (x y : Word3) (h : ∀ v : Fin 3, levelOf v x = levelOf v y) : x = y := by
  have h0 := h 0
  have h1 := h 1
  have h2 := h 2
  simp only [levelOf] at h0 h1 h2
  apply BitVec.eq_of_getLsbD_eq
  intro i hi
  have g0 := fun j => congrArg (fun b : Level => b.getLsbD j) h0
  have g1 := fun j => congrArg (fun b : Level => b.getLsbD j) h1
  have g2 := fun j => congrArg (fun b : Level => b.getLsbD j) h2
  simp only [BitVec.getLsbD_extractLsb'] at g0 g1 g2
  rcases Nat.lt_or_ge i 5 with h5 | h5
  · have := g0 i
    simpa [h5] using this
  · rcases Nat.lt_or_ge i 10 with h10 | h10
    · have e : 5 + (i - 5) = i := by omega
      have l : i - 5 < 5 := by omega
      simpa [e, l] using g1 (i - 5)
    · have e : 10 + (i - 10) = i := by omega
      have l : i - 10 < 5 := by omega
      simpa [e, l] using g2 (i - 10)

/-- The value of a three-voice word from its fields (R151). -/
theorem word3_toNat (x : Word3) :
    x.toNat = (levelOf 0 x).toNat + (levelOf 1 x).toNat * 32 + (levelOf 2 x).toNat * 1024 := by
  have := x.isLt
  simp [levelOf, BitVec.extractLsb'_toNat, Nat.shiftRight_eq_div_pow]
  omega

theorem levelOf_and (v : Fin 3) (x y : Word3) : levelOf v (x &&& y) = levelOf v x &&& levelOf v y := by
  apply BitVec.eq_of_getLsbD_eq
  intro i hi
  simp [levelOf, hi]

theorem levelOf_or (v : Fin 3) (x y : Word3) : levelOf v (x ||| y) = levelOf v x ||| levelOf v y := by
  apply BitVec.eq_of_getLsbD_eq
  intro i hi
  simp [levelOf, hi]

theorem levelOf_voiceMask (u v : Fin 3) : levelOf u (voiceMask v) = if u = v then 31 else 0 := by
  revert u v; decide

theorem levelOf_not_voiceMask (u v : Fin 3) : levelOf u (~~~voiceMask v) = if u = v then 0 else 31 := by
  revert u v; decide

theorem levelOf_levelAt (u v : Fin 3) (l : Level) : levelOf u (levelAt v l) = if u = v then l else 0 := by
  revert u v l; decide

theorem level_and_ones (l : Level) : l &&& 31#5 = l := by revert l; decide

theorem level_or_ones (l : Level) : l ||| 31#5 = 31#5 := by revert l; decide

/-- The fields of `envMask3` after an amplitude update (R109). -/
theorem levelOf_ampEnvWord (u v : Fin 3) (amp : Byte) (w : Word3) :
    levelOf u (ampEnvWord v amp w) = if u = v then (if envMode amp then 31 else 0) else levelOf u w := by
  unfold ampEnvWord
  split <;> by_cases h : u = v <;>
    simp [h, levelOf_or, levelOf_and, levelOf_voiceMask, levelOf_not_voiceMask, level_and_ones, level_or_ones]

/-- The fields of `vol3` after an amplitude update (R109). -/
theorem levelOf_ampVolWord (u v : Fin 3) (amp : Byte) (w : Word3) :
    levelOf u (ampVolWord v amp w) =
      if u = v then (if envMode amp then 0 else vol4to5 (fixedVolume amp)) else levelOf u w := by
  unfold ampVolWord
  split <;> by_cases h : u = v <;>
    simp [h, levelOf_or, levelOf_and, levelOf_not_voiceMask, levelOf_levelAt, level_and_ones]

/-- `VOL4TO5` by formula (R150). -/
theorem vol4to5_formula (l : BitVec 4) : (vol4to5 l).toNat = expandedVolume l.toNat := by
  revert l; decide

/-! ### The stores -/

theorem readEnv_in (k : Nat) (h : k < 96) :
    s.readEnv k = ((s.envTab[s.shape.toNat]'s.shape.isLt)[k], s) := by
  simp [State.readEnv, h]

theorem readEnv_out (k : Nat) (h : 96 ≤ k) :
    s.readEnv k = (Config.envBeyondTable s.freeCtr, { s with freeCtr := s.freeCtr + 1 }) := by
  simp [State.readEnv, Nat.not_lt.mpr h]

/-- Whatever the index, an envelope read touches the counter of free values alone. -/
theorem readEnv_frame (k : Nat) : (s.readEnv k).2 = { s with freeCtr := (s.readEnv k).2.freeCtr } := by
  unfold State.readEnv; split <;> rfl

@[simp] theorem ringPut_length (j : Nat) (p : StereoPair) : (s.ringPut j p).ring.length = s.ring.length := by
  simp [State.ringPut]

/-- A ring slot read after a ring write (R10). -/
theorem ringPut_ringAt (j k : Nat) (p : StereoPair) (h : k < s.ring.length) :
    (s.ringPut j p).ringAt k = if j = k then p else s.ringAt k := by
  unfold State.ringPut State.ringAt
  simp only [List.getD_eq_getElem?_getD, List.getElem?_set]
  split <;> simp_all

@[simp] theorem ringPairs_length (k : Nat) : (s.ringPairs k).length = k := by simp [State.ringPairs]

theorem ringPairs_getElem? (k j : Nat) (h : j < k) :
    (s.ringPairs k)[j]? = some (s.ringAt ((s.rcur + j) % s.cfg.ringCapacity)) := by
  simp [State.ringPairs, h]

@[simp] theorem emit_outbox (e : Output) : (s.emit e).outbox = s.outbox ++ [e] := rfl

end Sys2Proof.Machine
end

