-- ==== Sys2Proof/Laws/Dac.lean ====
section
/-!
SUPPORT. The DAC table: the maximum that R155 scales by is the maximum of all entries; one entry of the table.
-/

namespace Sys2Proof.Machine

/-- Everything `maxOn` can answer. -/
theorem maxOn_spec {α : Type} (f : α → Nat) (l : List α) (m : Nat) :
    m ≤ maxOn f l m ∧ (∀ x ∈ l, f x ≤ maxOn f l m) ∧ (maxOn f l m = m ∨ ∃ x ∈ l, maxOn f l m = f x) := by
  induction l generalizing m with
  | nil => simp [maxOn]
  | cons y ys ih =>
    simp only [maxOn]
    split
    · next h =>
      obtain ⟨h1, h2, h3⟩ := ih (f y)
      refine ⟨by omega, ?_, .inr ?_⟩
      · intro x hx
        rcases List.mem_cons.mp hx with rfl | hx
        · exact h1
        · exact h2 x hx
      · rcases h3 with h3 | ⟨x, hx, h3⟩
        · exact ⟨y, by simp, h3⟩
        · exact ⟨x, by simp [hx], h3⟩
    · next h =>
      obtain ⟨h1, h2, h3⟩ := ih m
      refine ⟨h1, ?_, ?_⟩
      · intro x hx
        rcases List.mem_cons.mp hx with rfl | hx
        · omega
        · exact h2 x hx
      · rcases h3 with h3 | ⟨x, hx, h3⟩
        · exact .inl h3
        · exact .inr ⟨x, by simp [hx], h3⟩

/-- A maximum from 0 over a nonempty list is attained. -/
theorem maxOn_attained {α : Type} (f : α → Nat) (l : List α) (hl : l ≠ []) : ∃ x ∈ l, maxOn f l 0 = f x := by
  obtain ⟨-, h2, h3⟩ := maxOn_spec f l 0
  rcases h3 with h3 | h3
  · obtain ⟨y, hy⟩ := List.exists_mem_of_ne_nil l hl
    exact ⟨y, hy, by have := h2 y hy; omega⟩
  · exact h3

/-- `maxOn3` bounds every value and is attained. -/
theorem maxOn3_spec {α : Type} (l : List α) (f : α → α → α → Nat) (hl : l ≠ []) :
    (∀ c ∈ l, ∀ b ∈ l, ∀ a ∈ l, f c b a ≤ maxOn3 l f) ∧
    ∃ c ∈ l, ∃ b ∈ l, ∃ a ∈ l, maxOn3 l f = f c b a := by
  constructor
  · intro c hc b hb a ha
    refine le_trans ?_ ((maxOn_spec _ l 0).2.1 c hc)
    refine le_trans ?_ ((maxOn_spec _ l 0).2.1 b hb)
    exact (maxOn_spec _ l 0).2.1 a ha
  · obtain ⟨c, hc, e1⟩ := maxOn_attained (fun c => maxOn (fun b => maxOn (fun a => f c b a) l 0) l 0) l hl
    obtain ⟨b, hb, e2⟩ := maxOn_attained (fun b => maxOn (fun a => f c b a) l 0) l hl
    obtain ⟨a, ha, e3⟩ := maxOn_attained (fun a => f c b a) l hl
    exact ⟨c, hc, b, hb, a, ha, by unfold maxOn3; rw [e1, e2, e3]⟩

theorem mem_allLevels (x : Level) : x ∈ allLevels := by revert x; decide

/-- The index whose fields are three given levels (R151). -/
def indexOf (c b a : Level) : Word3 := (c ++ b) ++ a

theorem indexOf_toNat (c b a : Level) : (indexOf c b a).toNat = c.toNat * 1024 + b.toNat * 32 + a.toNat := by
  have ha := a.isLt
  have hb := b.isLt
  unfold indexOf
  rw [BitVec.toNat_append, BitVec.toNat_append, ← Nat.shiftLeft_add_eq_or_of_lt hb,
    ← Nat.shiftLeft_add_eq_or_of_lt ha]
  simp only [Nat.shiftLeft_eq]
  omega

/-- The voice levels of an index (R151). -/
theorem levelOf_indexOf (c b a : Level) :
    levelOf 0 (indexOf c b a) = a ∧ levelOf 1 (indexOf c b a) = b ∧ levelOf 2 (indexOf c b a) = c := by
  have ha := a.isLt
  have hb := b.isLt
  have hc := c.isLt
  have hi := indexOf_toNat c b a
  refine ⟨?_, ?_, ?_⟩ <;> apply BitVec.eq_of_toNat_eq <;>
    simp only [levelOf, BitVec.extractLsb'_toNat, hi, Nat.shiftRight_eq_div_pow] <;> simp <;> omega

theorem rawAt_indexOf (src : DacSource) (c b a : Level) : rawAt src (indexOf c b a) = rawEntry src c b a := by
  obtain ⟨h0, h1, h2⟩ := levelOf_indexOf c b a
  simp only [rawAt, h0, h1, h2]

/-- `Max` of R155 is the largest entry of the table, over all 32768. -/
theorem rawMax_spec (src : DacSource) :
    (∀ j : Word3, rawAt src j ≤ rawMax src) ∧ ∃ j : Word3, rawAt src j = rawMax src := by
  have main : ∀ (M : Nat), (∀ c b a : Level, rawEntry src c b a ≤ M) → (∃ c b a, rawEntry src c b a = M) →
      (∀ j : Word3, rawAt src j ≤ M) ∧ ∃ j : Word3, rawAt src j = M := by
    intro M h1 ⟨c, b, a, h2⟩
    exact ⟨fun j => h1 _ _ _, indexOf c b a, by rw [rawAt_indexOf, h2]⟩
  cases src with
  | measured m =>
    obtain ⟨h1, c, -, b, -, a, -, h2⟩ :=
      maxOn3_spec allLevels (fun c b a => rawEntry (.measured m) c b a) (List.ne_nil_of_mem (mem_allLevels 0))
    exact main _ (fun c b a => h1 c (mem_allLevels c) b (mem_allLevels b) a (mem_allLevels a)) ⟨c, b, a, h2.symm⟩
  | linear d =>
    have hmem : ∀ x : Level, voiceLevel d x ∈ d.toList.map BitVec.toNat := by
      intro x
      refine List.mem_map.mpr ⟨d[x.toNat]'x.isLt, ?_, rfl⟩
      simp
    have hof : ∀ y ∈ d.toList.map BitVec.toNat, ∃ x : Level, voiceLevel d x = y := by
      intro y hy
      obtain ⟨v, hv, rfl⟩ := List.mem_map.mp hy
      obtain ⟨i, hi, rfl⟩ := Vector.mem_iff_getElem.mp (Vector.mem_toList_iff.mp hv)
      exact ⟨BitVec.ofNat 5 i, by simp [voiceLevel, Nat.mod_eq_of_lt hi]⟩
    obtain ⟨h1, c, hc, b, hb, a, ha, h2⟩ :=
      maxOn3_spec (d.toList.map BitVec.toNat) (fun c b a => (a + b + c) / 3) (List.ne_nil_of_mem (hmem 0))
    obtain ⟨c, rfl⟩ := hof c hc
    obtain ⟨b, rfl⟩ := hof b hb
    obtain ⟨a, rfl⟩ := hof a ha
    exact main _ (fun c b a => h1 _ (hmem c) _ (hmem b) _ (hmem a)) ⟨c, b, a, h2.symm⟩

/-- One entry of the DAC table (R155, R156). -/
theorem dacTable_getElem (src : DacSource) (cfg : Cfg) (i : Word3) :
    (dacTable src cfg)[i.toNat]'i.isLt = wrap16 (normAt src cfg i) := by
  simp [dacTable, normAt]

/-- The largest entry of the example table (R154). -/
theorem rawMax_example : rawMax (.linear exampleVoiceDac) = 65535 := by
  obtain ⟨h1, j, h2⟩ := rawMax_spec (.linear exampleVoiceDac)
  have hle : rawMax (.linear exampleVoiceDac) ≤ 65535 := by
    rw [← h2]
    simp only [rawAt, rawEntry, voiceLevel]
    omega
  have := h1 0x7FFF
  have e : rawAt (.linear exampleVoiceDac) 0x7FFF = 65535 := by decide
  omega

end Sys2Proof.Machine
end

