-- ==== Sys2Proof/Laws/PerInstr.lean ====
section
/-!
SUPPORT. Statements made per operation: an operation that an agent issues has a command word (`30_encoding.md` R70,
`20_memory.md` R57).
-/

namespace Sys2Proof.Laws.Issue

/-- An operation that one of the two agents issues is one that has a command word. -/
def Statement (i : Instr) : Prop := i.issuer ≠ none → i.hasWord = true

theorem writeR0 (d : Byte) : Statement (.writeR0 d) := fun _ => rfl
theorem writeR1 (d : Byte) : Statement (.writeR1 d) := fun _ => rfl
theorem writeR2 (d : Byte) : Statement (.writeR2 d) := fun _ => rfl
theorem writeR3 (d : Byte) : Statement (.writeR3 d) := fun _ => rfl
theorem writeR4 (d : Byte) : Statement (.writeR4 d) := fun _ => rfl
theorem writeR5 (d : Byte) : Statement (.writeR5 d) := fun _ => rfl
theorem writeR6 (d : Byte) : Statement (.writeR6 d) := fun _ => rfl
theorem writeR7 (d : Byte) : Statement (.writeR7 d) := fun _ => rfl
theorem writeR8 (d : Byte) : Statement (.writeR8 d) := fun _ => rfl
theorem writeR9 (d : Byte) : Statement (.writeR9 d) := fun _ => rfl
theorem writeR10 (d : Byte) : Statement (.writeR10 d) := fun _ => rfl
theorem writeR11 (d : Byte) : Statement (.writeR11 d) := fun _ => rfl
theorem writeR12 (d : Byte) : Statement (.writeR12 d) := fun _ => rfl
theorem writeR13 (d : Byte) : Statement (.writeR13 d) := fun _ => rfl
theorem writeR14 (d : Byte) : Statement (.writeR14 d) := fun _ => rfl
theorem writeR15 (d : Byte) : Statement (.writeR15 d) := fun _ => rfl
theorem reset : Statement (.reset) := fun _ => rfl
theorem advance (cycles : Nat) : Statement (.advance cycles) := fun _ => rfl
theorem consume (k : Nat) : Statement (.consume k) := fun _ => rfl
theorem ackShape : Statement (.ackShape) := fun _ => rfl
theorem snapExport : Statement (.snapExport) := fun _ => rfl
theorem snapImport (σ : Snapshot) : Statement (.snapImport σ) := fun _ => rfl
theorem reservedOperand1 (low : BitVec 12) : Statement (.reservedOperand1 low) := fun _ => rfl
theorem reservedOperand2 (low : BitVec 12) : Statement (.reservedOperand2 low) := fun _ => rfl
theorem reservedOperand3 (low : BitVec 12) : Statement (.reservedOperand3 low) := fun _ => rfl
theorem reservedOperand4 (low : BitVec 12) : Statement (.reservedOperand4 low) := fun _ => rfl
theorem reservedOperand5 (low : BitVec 12) : Statement (.reservedOperand5 low) := fun _ => rfl
theorem reservedOperand6 (low : BitVec 12) : Statement (.reservedOperand6 low) := fun _ => rfl
theorem reserved7 (low : BitVec 12) : Statement (.reserved7 low) := fun _ => rfl
theorem reserved8 (low : BitVec 12) : Statement (.reserved8 low) := fun _ => rfl
theorem reserved9 (low : BitVec 12) : Statement (.reserved9 low) := fun _ => rfl
theorem reservedA (low : BitVec 12) : Statement (.reservedA low) := fun _ => rfl
theorem reservedB (low : BitVec 12) : Statement (.reservedB low) := fun _ => rfl
theorem reservedC (low : BitVec 12) : Statement (.reservedC low) := fun _ => rfl
theorem reservedD (low : BitVec 12) : Statement (.reservedD low) := fun _ => rfl
theorem reservedE (low : BitVec 12) : Statement (.reservedE low) := fun _ => rfl
theorem reservedF (low : BitVec 12) : Statement (.reservedF low) := fun _ => rfl
theorem nextSample : Statement (.nextSample) := fun h => absurd rfl h
theorem create (cfg : Cfg) : Statement (.create cfg) := fun h => absurd rfl h

end Sys2Proof.Laws.Issue
end

