-- ==== Sys2Proof/Laws/Synth.lean ====
section
/-!
SUPPORT. The sample synthesizer: one lemma per step of R170, what a sample writes, and that it does not depend on
the ring, the cursors, the cycles or the interface.
-/

namespace Sys2Proof.Machine

variable (s : State)

/-! ### Noise -/

/-- The bits of the noise position's fraction (R141). -/
theorem noiseFraction_bit (cfg : Cfg) (i : Nat) (hi : i < 32) :
    (noiseFraction cfg).getLsbD i = decide (i < cfg.noiseFracBits) := by
  unfold noiseFraction trunc32
  rw [BitVec.getLsbD_ofNat, Nat.testBit_two_pow_sub_one]
  simp [hi]

/-- The tick test of R141 in plain arithmetic. -/
theorem noise_due_iff (cfg : Cfg) (x : Phase) :
    x &&& ~~~noiseFraction cfg = 0 ↔ x.toNat < 2 ^ cfg.noiseFracBits := by
  constructor
  · intro h
    apply Nat.lt_pow_two_of_testBit
    intro i hi
    by_cases h32 : i < 32
    · have g := congrArg (fun b : Phase => b.getLsbD i) h
      have hn : ¬ i < cfg.noiseFracBits := by omega
      simp only [BitVec.getLsbD_and, BitVec.getLsbD_not, h32, decide_true,
        noiseFraction_bit cfg i h32, hn, decide_false, Bool.not_false, Bool.and_true] at g
      simpa [BitVec.getLsbD] using g
    · exact Nat.testBit_lt_two_pow (lt_of_lt_of_le x.isLt (Nat.pow_le_pow_right (by omega) (by omega)))
  · intro h
    apply BitVec.eq_of_getLsbD_eq
    intro i hi
    simp only [BitVec.getLsbD_and, BitVec.getLsbD_not, hi, decide_true, Bool.true_and, noiseFraction_bit cfg i hi]
    by_cases hn : i < cfg.noiseFracBits
    · simp [hn]
    · have : x.getLsbD i = false :=
        Nat.testBit_lt_two_pow (lt_of_lt_of_le h (Nat.pow_le_pow_right (by omega) (by omega)))
      simp [this]

/-- The fold of R141 in plain arithmetic. -/
theorem noise_fold (cfg : Cfg) (x : Phase) :
    x &&& noiseFraction cfg = BitVec.ofNat 32 (x.toNat % 2 ^ cfg.noiseFracBits) := by
  apply BitVec.eq_of_getLsbD_eq
  intro i hi
  rw [BitVec.getLsbD_and, noiseFraction_bit cfg i hi, BitVec.getLsbD_ofNat, Nat.testBit_mod_two_pow]
  simp [hi, BitVec.getLsbD, Bool.and_comm]

/-- Everything a noise tick can do (R141). -/
theorem noiseTick_cases :
    (s.npos.toNat < 2 ^ s.cfg.noiseFracBits ∧ noiseTick s = s) ∨
    (2 ^ s.cfg.noiseFracBits ≤ s.npos.toNat ∧
      noiseTick s = { s with
        nlev := s.nlev ^^^ toggleMask s.cfg s.seed
        seed := nextSeed s.cfg s.seed
        npos := BitVec.ofNat 32 (s.npos.toNat % 2 ^ s.cfg.noiseFracBits) }) := by
  by_cases h : s.npos &&& ~~~noiseFraction s.cfg = 0
  · exact .inl ⟨(noise_due_iff _ _).mp h, by simp [noiseTick, h]⟩
  · refine .inr ⟨Nat.le_of_not_lt fun g => h ((noise_due_iff _ _).mpr g), ?_⟩
    unfold noiseTick
    rw [if_neg h, noise_fold]

/-- `rnd()` keeps a nonzero seed nonzero with the taps `CREATE` accepts (R26). -/
theorem nextSeed_ne_zero (cfg : Cfg) (ha : cfg.lfsrTapA = 0) (hb : 0 < cfg.lfsrTapB)
    (seed : Lfsr) (h : seed ≠ 0) : nextSeed cfg seed ≠ 0 := by
  intro hz
  apply h
  have hbit : ∀ i, i < 16 → seed.getLsbD (i + 1) = false := by
    intro i hi
    have := congrArg (fun b : Lfsr => b.getLsbD i) hz
    simp only [nextSeed, Config.lfsrWidth, BitVec.getLsbD_or, BitVec.getLsbD_ushiftRight,
      BitVec.getLsbD_shiftLeft] at this
    simp only [show decide (i < 17 - 1) = true by simpa using hi, Bool.not_true, Bool.and_false, Bool.false_and,
      Bool.or_false] at this
    simpa [Nat.add_comm] using this
  have h16 : (feedbackBit cfg seed).getLsbD 0 = false := by
    have := congrArg (fun b : Lfsr => b.getLsbD 16) hz
    simpa [nextSeed, Config.lfsrWidth] using this
  have htap : seed.getLsbD cfg.lfsrTapB = false := by
    rcases Nat.lt_or_ge cfg.lfsrTapB 17 with g | g
    · have := hbit (cfg.lfsrTapB - 1) (by omega)
      rwa [Nat.sub_add_cancel hb] at this
    · exact BitVec.getLsbD_of_ge _ _ g
  have h0 : seed.getLsbD 0 = false := by
    simpa [feedbackBit, ha, htap] using h16
  apply BitVec.eq_of_getLsbD_eq
  intro i hi
  rcases i with _ | i
  · simpa using h0
  · simpa using hbit i (by omega)

/-- A toggle keeps the noise level all zeros or all ones (R141). -/
theorem nlev_toggle (cfg : Cfg) (seed : Lfsr) (l : Mask16) (h : l = 0x0000 ∨ l = 0xFFFF) :
    l ^^^ toggleMask cfg seed = 0x0000 ∨ l ^^^ toggleMask cfg seed = 0xFFFF := by
  unfold toggleMask
  rcases h with rfl | rfl <;> split <;> decide

/-- A noise tick keeps the noise generator's ranges (R25, R26). -/
theorem noiseTick_wf (hc : CfgNumbersOk s.cfg) (h : NoiseWf s) : NoiseWf (noiseTick s) := by
  obtain ⟨-, -, -, -, -, -, -, -, -, ha, hb, -, -, -⟩ := hc
  rcases noiseTick_cases s with ⟨-, e⟩ | ⟨-, e⟩ <;> rw [e]
  · exact h
  · exact ⟨nextSeed_ne_zero _ ha hb _ h.1, nlev_toggle _ _ _ h.2⟩

/-! ### Envelope -/

/-- The envelope advance stays inside the table for every step (R134). -/
theorem envWrapped_lt (cfg : Cfg) (h : 25 ≤ cfg.envFracBits) (e : Phase) :
    (envWrapped cfg e).toNat < 96 * 2 ^ cfg.envFracBits := by
  have hp : 2 ^ 25 ≤ 2 ^ cfg.envFracBits := Nat.pow_le_pow_right (by omega) h
  have he := e.isLt
  unfold envWrapped
  simp only [Config.envEntries, Config.envLoopEntries, Nat.shiftLeft_eq, trunc32]
  split
  · next hle =>
    have h64 : 64 * 2 ^ cfg.envFracBits < 2 ^ 32 := by omega
    have hle' : BitVec.ofNat 32 (64 * 2 ^ cfg.envFracBits) ≤ e := by
      rw [BitVec.le_def, BitVec.toNat_ofNat, Nat.mod_eq_of_lt h64]; omega
    rw [BitVec.toNat_sub_of_le hle', BitVec.toNat_ofNat, Nat.mod_eq_of_lt h64]
    omega
  · next hlt => omega

/-- The index is inside the table where the position is (R133). -/
theorem envIndex_lt (h : s.epos.toNat < 96 * 2 ^ s.cfg.envFracBits) : s.envIndex < 96 := by
  simp only [State.envIndex, BitVec.toNat_ushiftRight, Nat.shiftRight_eq_div_pow]
  exact Nat.div_lt_of_lt_mul (by rwa [Nat.mul_comm] at h)

/-! ### Filter -/

/-- What the output stage writes (R190 to R193). -/
theorem postProcess_frame (raw : Sample) :
    (postProcess raw s).2 = { s with
      lp1 := (postProcess raw s).2.lp1, lp2 := (postProcess raw s).2.lp2
      dcHist := (postProcess raw s).2.dcHist, dcIdx := (postProcess raw s).2.dcIdx
      dcSum := (postProcess raw s).2.dcSum } := by
  unfold postProcess; split <;> rfl

theorem postProcess_off (raw : Sample) (h : s.cfg.lpfEnable = false) : postProcess raw s = (raw, s) := by
  simp [postProcess, h]

/-- Replacing one sample of a history moves its sum by the difference (R192). -/
theorem sampleSum_set (l : List Sample) (i : Nat) (x : Sample) (h : i < l.length) :
    sampleSum (l.set i x) = sampleSum l - (l.getD i 0).toInt + x.toInt := by
  induction l generalizing i with
  | nil => simp at h
  | cons y ys ih =>
    rcases i with _ | i
    · simp [sampleSum]; omega
    · have := ih i (by simpa using h)
      simp only [sampleSum, List.map_cons, List.sum_cons, List.set_cons_succ, List.getD_cons_succ] at *
      omega

/-- The history update keeps the DC adjuster's invariant (R31, R192). -/
theorem dcUpdate_wf (raw : Sample) (h : DcWf s) : DcWf (dcUpdate raw s) where
  length := by simp [dcUpdate, h.length]
  index := Nat.mod_lt _ (Nat.lt_of_le_of_lt (Nat.zero_le _) h.index)
  sum := by
    have := sampleSum_set s.dcHist s.dcIdx raw (h.length ▸ h.index)
    simp only [dcUpdate, State.dcAt]
    rw [this, h.sum]

/-- The output stage keeps the DC adjuster's invariant. -/
theorem postProcess_dcWf (raw : Sample) (h : DcWf s) : DcWf (postProcess raw s).2 := by
  unfold postProcess
  split
  · exact dcUpdate_wf _ raw ⟨h.length, h.index, h.sum⟩
  · exact h

/-! ### One sample -/

/-- Steps 1 to 5 of R170 write the noise generator, and the counter of free values. -/
theorem sampleIndex_frame :
    (sampleIndex s).2 = { noiseTick s with freeCtr := (sampleIndex s).2.freeCtr } := by
  simp only [sampleIndex, envRead]
  exact readEnv_frame _ _

/-- What a sample writes (R170). -/
theorem nextSample_frame :
    (nextSample s).2 = { s with
      npos := (nextSample s).2.npos, nlev := (nextSample s).2.nlev, seed := (nextSample s).2.seed
      pos := (nextSample s).2.pos, epos := (nextSample s).2.epos, dcHist := (nextSample s).2.dcHist
      dcIdx := (nextSample s).2.dcIdx, dcSum := (nextSample s).2.dcSum, lp1 := (nextSample s).2.lp1
      lp2 := (nextSample s).2.lp2, freeCtr := (nextSample s).2.freeCtr } := by
  unfold nextSample
  simp only
  rw [postProcess_frame, sampleIndex_frame]
  rcases noiseTick_cases s with ⟨-, e⟩ | ⟨-, e⟩ <;> rw [e] <;> rfl

@[simp] theorem nextSample_cfg : (nextSample s).2.cfg = s.cfg := by rw [nextSample_frame]
@[simp] theorem nextSample_envTab : (nextSample s).2.envTab = s.envTab := by rw [nextSample_frame]
@[simp] theorem nextSample_dacTab : (nextSample s).2.dacTab = s.dacTab := by rw [nextSample_frame]
@[simp] theorem nextSample_reg : (nextSample s).2.reg = s.reg := by rw [nextSample_frame]
@[simp] theorem nextSample_tstep : (nextSample s).2.tstep = s.tstep := by rw [nextSample_frame]
@[simp] theorem nextSample_gateT : (nextSample s).2.gateT = s.gateT := by rw [nextSample_frame]
@[simp] theorem nextSample_gateN : (nextSample s).2.gateN = s.gateN := by rw [nextSample_frame]
@[simp] theorem nextSample_vol3 : (nextSample s).2.vol3 = s.vol3 := by rw [nextSample_frame]
@[simp] theorem nextSample_envMask3 : (nextSample s).2.envMask3 = s.envMask3 := by rw [nextSample_frame]
@[simp] theorem nextSample_nstep : (nextSample s).2.nstep = s.nstep := by rw [nextSample_frame]
@[simp] theorem nextSample_estep : (nextSample s).2.estep = s.estep := by rw [nextSample_frame]
@[simp] theorem nextSample_shape : (nextSample s).2.shape = s.shape := by rw [nextSample_frame]
@[simp] theorem nextSample_shapeChanged : (nextSample s).2.shapeChanged = s.shapeChanged := by
  rw [nextSample_frame]
@[simp] theorem nextSample_ring : (nextSample s).2.ring = s.ring := by rw [nextSample_frame]
@[simp] theorem nextSample_wcur : (nextSample s).2.wcur = s.wcur := by rw [nextSample_frame]
@[simp] theorem nextSample_rcur : (nextSample s).2.rcur = s.rcur := by rw [nextSample_frame]
@[simp] theorem nextSample_pending : (nextSample s).2.pending = s.pending := by rw [nextSample_frame]
@[simp] theorem nextSample_cyc : (nextSample s).2.cyc = s.cyc := by rw [nextSample_frame]
@[simp] theorem nextSample_inbox : (nextSample s).2.inbox = s.inbox := by rw [nextSample_frame]
@[simp] theorem nextSample_outbox : (nextSample s).2.outbox = s.outbox := by rw [nextSample_frame]

/-- The noise generator after a sample: the tick, then the step (R141, R142). -/
theorem nextSample_noise :
    (nextSample s).2.seed = (noiseTick s).seed ∧ (nextSample s).2.nlev = (noiseTick s).nlev ∧
    (nextSample s).2.npos = (noiseTick s).npos + s.nstep := by
  unfold nextSample
  simp only
  rw [postProcess_frame, sampleIndex_frame]
  rcases noiseTick_cases s with ⟨-, e⟩ | ⟨-, e⟩ <;> rw [e] <;> exact ⟨rfl, rfl, rfl⟩

/-- The tone and envelope positions after a sample (R176). -/
theorem nextSample_positions :
    (∀ v : Fin 3, (nextSample s).2.pos[v] = s.pos[v] + s.tstep[v]) ∧
    (nextSample s).2.epos = envWrapped s.cfg (s.epos + s.estep) := by
  unfold nextSample
  simp only
  rw [postProcess_frame, sampleIndex_frame]
  rcases noiseTick_cases s with ⟨-, e⟩ | ⟨-, e⟩ <;> rw [e] <;>
    exact ⟨fun v => by fin_cases v <;> rfl, rfl⟩

/-- The output stage depends on the configuration and on its own state alone. -/
theorem postProcess_congr (raw : Sample) (t : State) (hc : t.cfg = s.cfg) (hh : t.dcHist = s.dcHist)
    (hi : t.dcIdx = s.dcIdx) (hs : t.dcSum = s.dcSum) (h1 : t.lp1 = s.lp1) (h2 : t.lp2 = s.lp2) :
    (postProcess raw t).1 = (postProcess raw s).1 ∧ (postProcess raw t).2.dcHist = (postProcess raw s).2.dcHist ∧
    (postProcess raw t).2.dcIdx = (postProcess raw s).2.dcIdx ∧
    (postProcess raw t).2.dcSum = (postProcess raw s).2.dcSum ∧ (postProcess raw t).2.lp1 = (postProcess raw s).2.lp1 ∧
    (postProcess raw t).2.lp2 = (postProcess raw s).2.lp2 := by
  unfold postProcess
  by_cases h : s.cfg.lpfEnable <;>
    simp [h, hc, hh, hi, hs, h1, h2, filterOutput, filterInput, dcEstimate, dcUpdate, State.dcAt]

/-- Steps 5 and 7 of a sample (R175, R177): the output stage, from the state before the sample, on the DAC entry of
the sample's index. -/
theorem nextSample_output :
    (nextSample s).1 = (postProcess (s.readDac (sampleIndex s).1) s).1 ∧
    (nextSample s).2.dcHist = (postProcess (s.readDac (sampleIndex s).1) s).2.dcHist ∧
    (nextSample s).2.dcIdx = (postProcess (s.readDac (sampleIndex s).1) s).2.dcIdx ∧
    (nextSample s).2.dcSum = (postProcess (s.readDac (sampleIndex s).1) s).2.dcSum ∧
    (nextSample s).2.lp1 = (postProcess (s.readDac (sampleIndex s).1) s).2.lp1 ∧
    (nextSample s).2.lp2 = (postProcess (s.readDac (sampleIndex s).1) s).2.lp2 := by
  unfold nextSample
  simp only
  rw [sampleIndex_frame]
  rcases noiseTick_cases s with ⟨-, e⟩ | ⟨-, e⟩ <;> rw [e] <;>
    exact postProcess_congr s _ _ rfl rfl rfl rfl rfl rfl

/-- The fields that no sample reads: the ring with its cursors, the cycles, the flag and the interface. -/
def withPath (s p : State) : State :=
  { s with
    ring := p.ring, wcur := p.wcur, rcur := p.rcur, pending := p.pending, cyc := p.cyc
    shapeChanged := p.shapeChanged, inbox := p.inbox, outbox := p.outbox }

/-- A sample does not depend on them, and leaves them as they are. -/
theorem nextSample_withPath (p : State) :
    nextSample (withPath s p) = ((nextSample s).1, withPath (nextSample s).2 p) := by
  have ht : noiseTick (withPath s p) = withPath (noiseTick s) p := by
    unfold noiseTick
    by_cases h : s.npos &&& ~~~noiseFraction s.cfg = 0
    · rw [if_pos h]
      exact if_pos h
    · rw [if_neg h]
      exact if_neg h
  have hi : sampleIndex (withPath s p) = ((sampleIndex s).1, withPath (sampleIndex s).2 p) := by
    unfold sampleIndex
    rw [ht]
    generalize noiseTick s = u
    simp only [envRead]
    by_cases h : u.envIndex < 96
    · rw [readEnv_in u _ h, readEnv_in (withPath u p) (withPath u p).envIndex h]; rfl
    · rw [readEnv_out u _ (Nat.le_of_not_lt h),
        readEnv_out (withPath u p) (withPath u p).envIndex (Nat.le_of_not_lt h)]; rfl
  unfold nextSample
  rw [hi]
  generalize sampleIndex s = u
  simp only
  unfold postProcess
  by_cases h : u.2.cfg.lpfEnable = true
  · rw [if_pos (show (advancePhases (withPath u.2 p)).cfg.lpfEnable = true from h),
      if_pos (show (advancePhases u.2).cfg.lpfEnable = true from h)]; rfl
  · rw [if_neg (show ¬(advancePhases (withPath u.2 p)).cfg.lpfEnable = true from h),
      if_neg (show ¬(advancePhases u.2).cfg.lpfEnable = true from h)]; rfl

end Sys2Proof.Machine
end

