-- ==== Sys2Proof/Laws/Scheduler.lean ====
section
/-!
SUPPORT. The frame scheduler and the ring: the loop of R200 as samples and ring writes, and the ring buffer's
invariant (R30) kept by every operation on it.
-/

namespace Sys2Proof.Machine

variable (s : State)

@[simp] theorem afterSamples_cfg (n : Nat) : (afterSamples n s).cfg = s.cfg := by
  induction n generalizing s with
  | zero => rfl
  | succ n ih => rw [afterSamples, ih, nextSample_cfg]

theorem samplesFrom_length (n : Nat) : (samplesFrom n s).length = n := by
  induction n generalizing s with
  | zero => rfl
  | succ n ih => simp [samplesFrom, ih]

theorem afterSamples_withPath (n : Nat) (p : State) :
    afterSamples n (withPath s p) = withPath (afterSamples n s) p := by
  induction n generalizing s with
  | zero => rfl
  | succ n ih => rw [afterSamples, nextSample_withPath, ih]; rfl

theorem samplesFrom_withPath (n : Nat) (p : State) : samplesFrom n (withPath s p) = samplesFrom n s := by
  induction n generalizing s with
  | zero => rfl
  | succ n ih => rw [samplesFrom, nextSample_withPath, ih]; rfl

/-- Samples leave the ring, the cursors, the cycles, the flag and the interface as they are. -/
theorem afterSamples_path (n : Nat) : afterSamples n s = withPath (afterSamples n s) s := by
  induction n generalizing s with
  | zero => rfl
  | succ n ih =>
    have h := afterSamples_withPath (nextSample s).2 n s
    have e : withPath (nextSample s).2 s = (nextSample s).2 :=
      (congrArg Prod.snd (nextSample_withPath s s)).symm
    rwa [e] at h

/-- The ring after the samples `xs` are stored from slot `j` on (R200). -/
def fillRing (cap : Nat) : Nat → List Sample → List StereoPair → List StereoPair
  | _, [], r => r
  | j, x :: xs, r => fillRing cap (j + 1) xs (r.set (j % cap) (x, x))

@[simp] theorem fillRing_length (cap j : Nat) (xs : List Sample) (r : List StereoPair) :
    (fillRing cap j xs r).length = r.length := by
  induction xs generalizing j r with
  | nil => rfl
  | cons x xs ih => rw [fillRing, ih, List.length_set]

/-- The loop of R200: `n` samples, and their pairs in the ring. -/
theorem runSamples_eq (n j : Nat) :
    runSamples n j s =
      { afterSamples n s with ring := fillRing s.cfg.ringCapacity j (samplesFrom n s) s.ring } := by
  induction n generalizing s j with
  | zero => rfl
  | succ n ih =>
    have hp : ∀ (u : State) (i : Nat) (p : StereoPair),
        u.ringPut i p = withPath u { u with ring := u.ring.set i p } := fun _ _ _ => rfl
    have ha : ∀ (m : Nat) (u : State) (i : Nat) (p : StereoPair),
        afterSamples m (u.ringPut i p) = { afterSamples m u with ring := u.ring.set i p } := by
      intro m u i p
      rw [hp, afterSamples_withPath]
      conv_rhs => rw [afterSamples_path u m]
      rfl
    simp only [runSamples, afterSamples, samplesFrom, fillRing]
    rw [ih, ha, hp, samplesFrom_withPath]
    simp [withPath]

/-- `CONSUME` keeps the ring buffer's invariant (R30, R202). -/
theorem execConsume_ringWf (k : Nat) (t : State) (h : RingWf s) (e : execConsume k s = .next t) : RingWf t := by
  unfold execConsume at e
  split at e
  · cases e
  · next hk =>
    cases e
    have hc : 0 < s.cfg.ringCapacity := Nat.lt_of_le_of_lt (Nat.zero_le _) h.wcur
    refine ⟨h.length, h.wcur, Nat.mod_lt _ hc, ?_, ?_⟩
    · have := h.pending
      simp only [State.emit]
      omega
    · have hw := h.cursors
      simp only [State.emit, Nat.mod_add_mod]
      rw [show s.rcur + k + (s.pending - k) = s.rcur + s.pending by omega, hw]

/-- What `ADVANCE` answers (R200): the samples' state, with the ring, the cursors, the cycles and the event. -/
theorem execAdvance_eq (c : Nat) :
    execAdvance c s = .next { afterSamples (samplesGenerated c s) s with
      ring := fillRing s.cfg.ringCapacity s.wcur (samplesFrom (samplesGenerated c s) s) s.ring
      wcur := (s.wcur + samplesGenerated c s) % s.cfg.ringCapacity
      pending := s.pending + samplesGenerated c s
      cyc := cyclesLeft s.cfg (s.cyc + c) (samplesDue s.cfg (s.cyc + c))
      outbox := s.outbox ++ [.notify s.wcur (samplesGenerated c s)] } := by
  unfold execAdvance
  simp only
  generalize samplesGenerated c s = n
  generalize cyclesLeft s.cfg (s.cyc + c) (samplesDue s.cfg (s.cyc + c)) = y
  have hw : ({ s with cyc := y } : State) = withPath s { s with cyc := y } := rfl
  rw [runSamples_eq, hw, afterSamples_withPath, samplesFrom_withPath]
  conv_rhs => rw [afterSamples_path s n]
  rfl

/-- `ADVANCE` keeps the ring buffer's invariant (R30, R202). -/
theorem execAdvance_ringWf (c : Nat) (t : State) (h : RingWf s) (e : execAdvance c s = .next t) : RingWf t := by
  have hc : 0 < s.cfg.ringCapacity := Nat.lt_of_le_of_lt (Nat.zero_le _) h.wcur
  have hn : samplesGenerated c s ≤ s.cfg.ringCapacity - s.pending := Nat.min_le_right _ _
  have hp := h.pending
  rw [execAdvance_eq, afterSamples_path] at e
  cases e
  refine ⟨?_, ?_, ?_, ?_, ?_⟩
  · simpa [withPath] using h.length
  · simpa [withPath] using Nat.mod_lt _ hc
  · simpa [withPath] using h.rcur
  · simp only [withPath, afterSamples_cfg]; omega
  · simp only [withPath, afterSamples_cfg]
    rw [← Nat.add_assoc, ← Nat.mod_add_mod, h.cursors]

end Sys2Proof.Machine
end

