-- ==== Sys2Proof/Tests/Slice0.lean ====
section
/-!
SUPPORT. The model's own tests.  Expected values are the spec's: `95_test_vectors.md` (its section is named at each
test) and the examples of the rules.  The last part shows, for each statement with hypotheses, a concrete
state and operands that meet them.
-/

namespace Sys2Proof.Tests

open Sys2Proof Sys2Proof.Machine

/-- The operation completes and the state it leaves passes the test. -/
def ends (r : Result) (p : State → Bool) : Bool :=
  match r with
  | .next t => p t
  | .fault _ => false
  | .refused _ => false

/-- The operation is refused for the reason given. -/
def refusedFor (r : Result) (why : Refusal) : Bool :=
  match r with
  | .refused w => w == why
  | .next _ => false
  | .fault _ => false

/-! ### Well-formedness: an ill-formed term for each check -/

theorem test_illformed_low_bits_are_refused :
    (Instr.reservedOperand1 0).wellFormed = false ∧ (Instr.reservedOperand2 0).wellFormed = false ∧
    (Instr.reservedOperand3 0).wellFormed = false ∧ (Instr.reservedOperand4 0).wellFormed = false ∧
    (Instr.reservedOperand5 0).wellFormed = false ∧ (Instr.reservedOperand6 0).wellFormed = false := by decide

theorem test_wellformed_low_bits_are_accepted :
    (Instr.reservedOperand1 1).wellFormed = true ∧ (Instr.reservedOperand6 0x800).wellFormed = true ∧
    (Instr.reserved7 0).wellFormed = true := by decide

/-! ### Decoding, word by word from the bits of `30_encoding.md` R70, R71 and R75 -/

theorem test_decode_tone_words :
    decode (.ofWord 0b0000000000011100) = .writeR0 0x1C ∧ decode (.ofWord 0b0000000111110011) = .writeR1 0xF3 ∧
    decode (.ofWord 0b0000001000111000) = .writeR2 0x38 ∧ decode (.ofWord 0b0000001100001111) = .writeR3 0x0F ∧
    decode (.ofWord 0b0000010001110000) = .writeR4 0x70 ∧ decode (.ofWord 0b0000010100010000) = .writeR5 0x10 := by
  decide

theorem test_decode_noise_mixer_amplitude_words :
    decode (.ofWord 0b0000011000000011) = .writeR6 0x03 ∧ decode (.ofWord 0b0000011100111110) = .writeR7 0x3E ∧
    decode (.ofWord 0b0000100000010000) = .writeR8 0x10 ∧ decode (.ofWord 0b0000100100000010) = .writeR9 0x02 ∧
    decode (.ofWord 0b0000101000000001) = .writeR10 0x01 := by decide

theorem test_decode_envelope_and_unused_words :
    decode (.ofWord 0b0000101100000001) = .writeR11 0x01 ∧ decode (.ofWord 0b0000110000000001) = .writeR12 0x01 ∧
    decode (.ofWord 0b0000110100001010) = .writeR13 0x0A ∧ decode (.ofWord 0b0000111011111111) = .writeR14 0xFF ∧
    decode (.ofWord 0b0000111100000000) = .writeR15 0x00 := by decide

theorem test_decode_host_words :
    decode (.ofWord 0b0001000000000000) = .reset ∧ decode ⟨0b0010000000000000, 160256, .zero⟩ = .advance 160256 ∧
    decode ⟨0b0011000000000000, 882, .zero⟩ = .consume 882 ∧ decode (.ofWord 0b0100000000000000) = .ackShape ∧
    decode (.ofWord 0b0101000000000000) = .snapExport ∧
    decode (.ofWord 0b0110000000000000) = .snapImport .zero := by decide

theorem test_decode_operand_bit_words :
    decode (.ofWord 0b0001000000000001) = .reservedOperand1 0x001 ∧
    decode (.ofWord 0b0010100000000000) = .reservedOperand2 0x800 ∧
    decode (.ofWord 0b0011000000010000) = .reservedOperand3 0x010 ∧
    decode (.ofWord 0b0100000100000000) = .reservedOperand4 0x100 ∧
    decode (.ofWord 0b0101111111111111) = .reservedOperand5 0xFFF ∧
    decode (.ofWord 0b0110000000000010) = .reservedOperand6 0x002 := by decide

theorem test_decode_reserved_words :
    decode (.ofWord 0b0111000000000000) = .reserved7 0x000 ∧ decode (.ofWord 0b1000000000000001) = .reserved8 0x001 ∧
    decode (.ofWord 0b1001000000000010) = .reserved9 0x002 ∧ decode (.ofWord 0b1010000000000011) = .reservedA 0x003 ∧
    decode (.ofWord 0b1011000000000100) = .reservedB 0x004 ∧ decode (.ofWord 0b1100000000000101) = .reservedC 0x005 ∧
    decode (.ofWord 0b1101000000000110) = .reservedD 0x006 ∧ decode (.ofWord 0b1110000000000111) = .reservedE 0x007 ∧
    decode (.ofWord 0b1111000100100011) = .reservedF 0x123 := by decide

theorem test_table_word_of_another_length : decodeTableWord 24 0x1000 = none ∧ decodeTableWord 0 0 = none := by decide

/-! ### Step computation: `95_test_vectors.md` 2.2 and 2.3 -/

theorem test_tone_steps :
    toneStep vectorCfg 0 5 = 0 ∧ toneStep vectorCfg 0 6 = 2028990597 ∧ toneStep vectorCfg 0 28 = 434783699 ∧
    toneStep vectorCfg 0x01 0xFF = 23823764 ∧ toneStep vectorCfg 0x0F 0xFF = 2972879 ∧
    toneStep vectorCfg 0x03 0x00 = 15851489 := by decide

theorem test_noise_steps :
    noiseStep vectorCfg 2 = 0 ∧ noiseStep vectorCfg 3 = 61919 ∧ noiseStep vectorCfg 31 = 5992 := by decide

theorem test_env_steps :
    envStep vectorCfg 0 0 = 95108934 ∧ envStep vectorCfg 0 1 = 190217868 ∧ envStep vectorCfg 1 0 = 743038 ∧
    envStep vectorCfg 0xFF 0xFF = 2902 := by decide

/-- R263 at `SAMPLE_RATE = 20 000`: the quotient for `TP = 6` is `(2 000 000 × 2^28) div 120 000 = 4473924266`. -/
theorem test_tone_step_wraps : (toneStep { vectorCfg with sampleRate := 20000 } 0 6).toNat = 4473924266 - 2 ^ 32 := by
  decide

/-! ### Tables: 2.4 and 2.6, R150, R154 -/

theorem test_env_table_levels :
    (∀ k ∈ [0, 1, 30, 31, 32, 33, 62, 63, 64, 65, 94, 95], envLevel 10 k =
      (if k < 32 then 31 - k else if k < 64 then k - 32 else 95 - k)) ∧
    envLevel 0 32 = 0 ∧ envLevel 11 95 = 31 ∧ envLevel 14 33 = 30 ∧ envLevel 15 32 = 0 := by decide

theorem test_env_table_entry : (envTable[0])[0] = 0x7FFF ∧ (envTable[0])[1] = 0x7BDE := by decide

/-- The synthetic input of 2.6, `M(c, b, a) = 1000a + 100b + 10c + 7`. -/
def syntheticDac : MeasuredDac :=
  tabulate 16 fun c => tabulate 16 fun b => tabulate 16 fun a => BitVec.ofNat 16 (1000 * a + 100 * b + 10 * c + 7)

theorem test_measured_entries :
    rawEntry (.measured syntheticDac) 1 1 2 = 607 ∧ rawEntry (.measured syntheticDac) 2 2 2 = 673 ∧
    rawEntry (.measured syntheticDac) 0 2 4 = 1667 ∧ rawEntry (.measured syntheticDac) 31 31 31 = 16657 := by
  decide +kernel

theorem test_linear_entries :
    rawEntry (.linear exampleVoiceDac) 0 0 31 = 21845 ∧ rawEntry (.linear exampleVoiceDac) 0 0 1 = 120 ∧
    rawEntry (.linear exampleVoiceDac) 0 31 31 = 43690 := by decide

/-- The table of R157, with the maximum 65 535 of the example table (2.6). -/
theorem test_dac_entries :
    (State.reset.readDac 0x0000).toInt = -16384 ∧ (State.reset.readDac 0x001F).toInt = -5462 ∧
    (State.reset.readDac 0x3DEF).toInt = -14337 ∧ (State.reset.readDac 0x7FFF).toInt = 16383 := by
  have h : ∀ i : Word3, State.reset.readDac i = wrap16 (normalise vectorCfg 65535 (rawAt (.linear exampleVoiceDac) i)) := by
    intro i
    have := dacTable_getElem (.linear exampleVoiceDac) vectorCfg i
    rwa [normAt, rawMax_example] at this
  rw [h, h, h, h]
  decide

/-! ### Register writes: 2.3 -/

theorem test_write_tone_fine :
    ends (exec (.writeR0 0x1C) State.reset) (fun t => t.reg[0] == 0x1C && t.tstep[0] == 434783699 &&
      t.pos[0] == 0x80000000) = true := by decide

theorem test_write_tone_coarse_masks :
    ends (exec (.writeR1 0xF3) State.reset) (fun t => t.reg[1] == 0x03 && t.tstep[0] == 15851489) = true := by decide

theorem test_write_tone_below_floor_forces_sentinel :
    ends (exec (.writeR4 0x05) { State.reset with pos := #v[1, 2, 3] })
      (fun t => t.tstep[2] == 0 && t.pos[2] == 0x80000000 && t.pos[1] == 2) = true := by decide

theorem test_write_noise :
    ends (exec (.writeR6 0x02) { State.reset with nlev := 0, npos := 0x8000, nstep := 61919, seed := 9 })
      (fun t => t.nstep == 0 && t.npos == 0 && t.nlev == 0xFFFF && t.seed == 9) = true := by decide

theorem test_write_mixer :
    ends (exec (.writeR7 0x3E) State.reset) (fun t => t.gateT[0] == 0x0000 && t.gateT[1] == 0xFFFF &&
      t.gateN[0] == 0xFFFF && t.gateN[2] == 0xFFFF) = true := by decide

theorem test_write_mixer_drops_high_bits :
    ends (exec (.writeR7 0xC0) State.reset) (fun t => t.reg[7] == 0x00 && t.gateT[2] == 0 && t.gateN[2] == 0) = true := by
  decide

theorem test_write_amplitudes :
    ends (exec (.writeR8 0x0F) State.reset) (fun t => t.vol3 == 0x001F && t.envMask3 == 0) = true ∧
    ends (exec (.writeR9 0x02) State.reset) (fun t => t.vol3 == 0x00A0) = true ∧
    ends (exec (.writeR10 0x01) State.reset) (fun t => t.vol3 == 0x0800) = true := by decide

theorem test_write_amplitude_mode_switch :
    ends (execAll [.writeR8 0x1F, .writeR8 0x01] State.reset) (fun t => t.vol3 == 0x0002 && t.envMask3 == 0) = true := by
  decide

theorem test_write_envelope_period :
    ends (exec (.writeR11 0x01) State.reset) (fun t => t.estep == 190217868) = true ∧
    ends (exec (.writeR12 0x01) State.reset) (fun t => t.estep == 743038) = true := by decide

theorem test_write_shape :
    ends (exec (.writeR13 0xFA) { State.reset with epos := 0x62C1E2F0 })
      (fun t => t.reg[13] == 0x0A && t.shape == 10 && t.epos == 0 && t.shapeChanged) = true := by decide

/-- R262, coarse first: the phase is reset although the final period is above the floor. -/
theorem test_coarse_first_resets_phase :
    ends (execAll [.writeR0 0x03, .writeR1 0x01, .nextSample, .nextSample, .writeR1 0x00, .writeR0 0xFF]
      { State.reset with dacTab := tabulate 32768 fun _ => 0 })
      (fun t => t.pos[0] == 0x80000000 && t.tstep[0] == 47740955) = true := by decide +kernel

/-- R262, fine first: the phase is kept. -/
theorem test_fine_first_keeps_phase :
    ends (execAll [.writeR0 0x03, .writeR1 0x01, .nextSample, .nextSample, .writeR0 0xFF, .writeR1 0x00]
      { State.reset with dacTab := tabulate 32768 fun _ => 0 })
      (fun t => t.pos[0] == 0x859A6FF6 && t.tstep[0] == 47740955) = true := by decide +kernel

/-! ### Noise and envelope: 2.5, L1.5 -/

theorem test_lfsr :
    nextSeed vectorCfg 1 = 0x10000 ∧ toggleMask vectorCfg 1 = 0x0000 ∧ nextSeed vectorCfg 0x10000 = 0x08000 ∧
    toggleMask vectorCfg 0x10000 = 0xFFFF ∧ nextSeed vectorCfg 0x00004 = 0x10002 := by decide

/-- The example of R141: `0x1E3BE` ticks and leaves `0xE3BE`. -/
theorem test_noise_tick :
    (noiseTick { State.reset with npos := 0x1E3BE }).npos = 0xE3BE ∧
    (noiseTick { State.reset with npos := 0x1E3BE }).seed = 0x10000 := by decide

theorem test_envelope_wrap :
    envWrapped vectorCfg (95 * 2 ^ 25 + 0x1000000 + 190217868) = 0x4A567E8C ∧
    envWrapped vectorCfg (96 * 2 ^ 25 - 1 + 95108934) = 0x45AB3F45 := by decide

/-! ### Sample synthesizer and filter: 2.7, 2.8 -/

theorem test_index_example :
    volumeIndex (20 <<< 5) { State.reset with vol3 := 31 } = 0x029F := by decide

theorem test_tone_advance :
    (toneAdvance { State.reset with tstep := #v[434783699, 0, 0] }).pos[0] = 0x99EA45D3 := by decide

theorem test_tone_gate :
    activeMask { State.reset with gateT := #v[0, 0, 0], pos := #v[0x7FFFFFFF, 0x80000000, 0] } = 0x03E0 := by decide

/-- The example of R191. -/
theorem test_filter_output : filterOutput 750 { State.reset with lp1 := 1000 } = 687 := by decide

theorem test_dc_estimate_truncates :
    dcEstimate { State.reset with dcSum := -5, cfg := { vectorCfg with dcN := 4 } } = -1 := by decide

/-- The example of R192: `DC_N = 4`, constant 1000. -/
theorem test_filter_run :
    (filterRun (List.replicate 8 1000)
      (State.afterReset { vectorCfg with dcN := 4, lpfEnable := true } envTable (tabulate 32768 fun _ => 0))).1.map BitVec.toInt =
      [250, 687, 750, 499, 250, 62, 0, 0] := by decide +kernel

/-! ### Scheduler and host operations: 2.9 -/

theorem test_advance_181 :
    ends (exec (.advance 181) State.reset) (fun t => t.cyc == 181 && t.outbox == [.notify 0 0]) = true := by decide

theorem test_advance_182 :
    ends (exec (.advance 182) { State.reset with dacTab := tabulate 32768 fun _ => 7 })
      (fun t => t.cyc == 1 && t.outbox == [.notify 0 1] && t.pending == 1 && t.ringAt 0 == (7, 7)) = true := by
  decide +kernel

theorem test_advance_counts :
    samplesDue vectorCfg 80000 = 440 ∧ cyclesLeft vectorCfg 80000 440 = 54 ∧ samplesDue vectorCfg 1000000 = 882 ∧
    cyclesLeft vectorCfg 1000000 882 = 839744 := by decide

theorem test_consume :
    refusedFor (exec (.consume 883) { State.reset with pending := 882 }) .consumeTooMany = true ∧
    ends (exec (.consume 882) { State.reset with pending := 882 }) (fun t => t.rcur == 882 && t.pending == 0) = true := by
  decide

theorem test_consume_pairs :
    ends (exec (.consume 2) { State.reset with ring := [(1, 1), (2, 2), (3, 3)], cfg := { vectorCfg with ringCapacity := 3 }, rcur := 2, pending := 2 })
      (fun t => t.outbox == [.pairs [(3, 3), (1, 1)]] && t.rcur == 1) = true := by decide

theorem test_acknowledge :
    ends (execAll [.writeR13 0x0A, .ackShape, .ackShape] State.reset)
      (fun t => t.outbox == [.shapeFlag true, .shapeFlag false]) = true := by decide

theorem test_export_from_reset :
    ends (exec .snapExport State.reset) (fun t => t.outbox == [.snapshot {
      reg := #v[0, 0, 0, 0, 0, 0, 0, 0x3F, 0, 0, 0, 0, 0, 0], pos := #v[0x80000000, 0x80000000, 0x80000000]
      tstep := #v[0, 0, 0], npos := 0, nstep := 0, seed := 1, nlev := 0xFFFF, epos := 0, estep := 95108934
      shape := 0, vol3 := 0, envMask3 := 0 }]) = true := by decide +kernel

/-- The record of 2.9 and its three refused variants. -/
theorem test_import :
    ends (exec (.snapImport (snapshotOf State.reset)) State.reset) (fun t => t.seed == 1) = true ∧
    refusedFor (exec (.snapImport { snapshotOf State.reset with tstep := #v[1, 0, 0] }) State.reset)
      .snapshotInconsistent = true ∧
    refusedFor (exec (.snapImport { snapshotOf State.reset with seed := 0 }) State.reset) .snapshotInconsistent = true ∧
    refusedFor (exec (.snapImport { snapshotOf State.reset with epos := 96 <<< 25 }) State.reset)
      .snapshotInconsistent = true := by decide +kernel

theorem test_reset_forgets :
    ends (exec .reset { State.reset with seed := 5, epos := 7, cyc := 9, pending := 3, reg := State.reset.reg.set 1 3 })
      (fun t => t.seed == 1 && t.epos == 0 && t.cyc == 0 && t.pending == 0 && t.reg[1] == 0 &&
        t.estep == 95108934 && !t.shapeChanged) = true := by decide

theorem test_create :
    ends (exec (.create vectorCfg) State.reset) (fun t => t.estep == 95108934) = true ∧
    refusedFor (exec (.create { vectorCfg with lfsrTapA := 1 }) State.reset) .cfgIllFormed = true ∧
    refusedFor (exec (.create { vectorCfg with dcN := 3 }) State.reset) .cfgIllFormed = true ∧
    refusedFor (exec (.create { vectorCfg with voiceDac32 := none }) State.reset) .cfgIllFormed = true := by decide

theorem test_reserved_word_is_refused :
    refusedFor (step (State.reset.withFetchWord 16 0xF123)) .reservedOp = true ∧
    refusedFor (step (State.reset.withFetchWord 16 0x1001)) .reservedOperandBits = true := by decide

theorem test_pseudo_tone :
    expand (.setTone 1 0x2F5) = [.writeR2 0xF5, .writeR3 0x02] ∧ expand (.setEnv 0x1234) = [.writeR11 0x34, .writeR12 0x12] ∧
    expand (.setVol 2 9) = [.writeR10 0x09] ∧ expand (.setShape 10) = [.writeR13 0x0A] := by decide

/-- R77's slices of operands wider than the field. -/
theorem test_pseudo_slices :
    expand (.setNoise 0x23) = [.writeR6 0x03] ∧ expand (.setMix 0x7E) = [.writeR7 0x3E] ∧
    expand (.setShape 0x1A) = [.writeR13 0x0A] := by decide

/-! ### Witnesses: states and operands that meet the hypotheses of the statements -/

/-- A small instance. -/
def tinyCfg : Cfg := { vectorCfg with dcN := 2, ringCapacity := 4 }

/-- A state of it: one pair pending, one sample in the DC history. -/
def tiny : State :=
  { State.created tinyCfg (.linear exampleVoiceDac) with
    ring := [(5, 5), (0, 0), (0, 0), (0, 0)], wcur := 1, pending := 1, dcHist := [3, 0], dcIdx := 1, dcSum := 3
    cyc := 7 }

theorem tiny_derived : Derived tiny where
  tstep := by decide
  nstep := by decide
  estep := by decide
  gateT := by decide
  gateN := by decide
  envField := by decide
  volField := by decide
  shape := by decide
  tonePinned := by decide
  noisePinned := by decide

theorem tiny_ring : RingWf tiny where
  length := by decide
  wcur := by decide
  rcur := by decide
  pending := by decide
  cursors := by decide

theorem tiny_dc : DcWf tiny where
  length := by decide
  index := by decide
  sum := by decide

theorem tiny_inv : Inv tiny where
  cfg := by decide
  tables := ⟨.linear exampleVoiceDac, rfl, rfl, rfl⟩
  regs := by unfold RegsMasked; decide
  derived := tiny_derived
  noise := by unfold NoiseWf; decide
  env := by unfold EnvWf; decide
  ring := tiny_ring
  dc := tiny_dc

/-- `DecodeOfEncodeIsTheOperation`: both kinds of operation. -/
theorem witness_encodable : (Instr.reservedOperand6 0xFFF).wellFormed = true ∧ (Instr.reservedOperand6 0xFFF).hasWord = true ∧
    Instr.nextSample.hasWord = false := by decide

/-- `StepRunsTheOldestCommand`, `StepTakesOneCommandAndAppends`: an idle and a busy interface. -/
theorem witness_interface : tiny.inbox = [] ∧ (tiny.withFetchWord 16 0x4000).inbox = [.ofWord 0x4000] ∧
    (∃ t, step tiny = .next t) ∧ (∃ t, step (tiny.withFetchWord 16 0x4000) = .next t) :=
  ⟨rfl, rfl, ⟨_, rfl⟩, ⟨_, rfl⟩⟩

/-- `ReservedWordsAreRefused`: a word at each end of each clause's range. -/
theorem witness_reserved_words :
    7 ≤ (0x7000 : CmdWord).toNat / 4096 ∧ 7 ≤ (0xFFFF : CmdWord).toNat / 4096 ∧
    (1 ≤ (0x1001 : CmdWord).toNat / 4096 ∧ (0x1001 : CmdWord).toNat % 4096 ≠ 0) ∧
    ((0x6FFF : CmdWord).toNat / 4096 ≤ 6 ∧ (0x6FFF : CmdWord).toNat % 4096 ≠ 0) ∧
    (0x0E00 : CmdWord).toNat / 256 = 14 ∧ (0x0FFF : CmdWord).toNat / 256 = 15 ∧
    (0x0DFF : CmdWord) = BitVec.ofNat 8 (13 : Fin 14).val ++ (0xFF : Byte) ∧
    (tiny.withFetchWord 16 0x7000).inbox = [.ofWord 0x7000] := by
  refine ⟨?_, ?_, ?_, ?_, ?_, ?_, ?_, rfl⟩ <;> decide

/-- `RewritingTheHeldByteRestartsTheEnvelopeAlone`: a coarse register and the shape, with bits outside the mask set. -/
theorem witness_rewrite : Derived tiny ∧ (tiny.reg[1] ||| 0xF0) &&& regMask[1] = tiny.reg[1] ∧
    (tiny.reg[13] ||| 0xF0) &&& regMask[13] = tiny.reg[13] :=
  ⟨tiny_derived, by decide, by decide⟩

/-- `RegistersHaveThreeWriters`, `TablesAreWrittenByCreateAlone`. -/
theorem witness_write : ∃ t, exec (.write 1 0x01) tiny = .next t ∧ t.reg ≠ tiny.reg ∧ ∀ cfg, Instr.write 1 0x01 ≠ .create cfg :=
  ⟨_, rfl, fun h => absurd (congrArg (fun r : Vector Byte 14 => r[1]) h) (by decide), fun _ h => by cases h⟩

/-- `SubFloorPeriodResetsThePhase`: period 5 exactly, then 261. -/
theorem witness_sub_floor : ∃ t u, exec (writeOp (2 * (0 : Fin 3).val + (0 : Fin 2).val) 5) tiny = .next t ∧
    tonePeriod t.reg[1] t.reg[0] ≤ 5 ∧ exec (writeOp (2 * (0 : Fin 3).val + (1 - (0 : Fin 2).val)) 1) t = .next u :=
  ⟨_, _, rfl, by decide, rfl⟩

/-- `ToneStepFallsWithThePeriod`: the floor and the two periods above it. -/
theorem witness_tone_periods : tonePeriod 0 5 ≤ 5 ∧ 0 < vectorCfg.sampleRate ∧
    vectorCfg.chipClock * 2 ^ vectorCfg.toneShift / (6 * vectorCfg.sampleRate) < 2 ^ 32 ∧ 5 < tonePeriod 0 6 ∧
    tonePeriod 0 6 ≤ tonePeriod 0 7 ∧ 4095 * vectorCfg.sampleRate ≤ vectorCfg.chipClock * 2 ^ vectorCfg.toneShift := by
  decide

/-- `NoiseFloorAndEnvelopePeriodZero`. -/
theorem witness_noise_periods : (2 : Byte).toNat % 32 < 3 ∧ 3 ≤ (3 : Byte).toNat % 32 ∧ 0 < vectorCfg.sampleRate ∧
    31 * vectorCfg.sampleRate ≤ vectorCfg.chipClock * 2 ^ vectorCfg.noiseShift ∧
    vectorCfg.chipClock * 2 ^ vectorCfg.noiseShift / (3 * vectorCfg.sampleRate) < 2 ^ 32 ∧
    vectorCfg.chipClock * 2 ^ vectorCfg.envShift / vectorCfg.sampleRate < 2 ^ 32 := by decide

/-- `EnvelopeAdvanceStaysInTheTable`, `AttackBlockNeverRepeats`: the first entry past the attack block. -/
theorem witness_past_attack : { tiny with epos := 0x40000000 }.cfg.envFracBits = 25 ∧
    ({ tiny with epos := 0x40000000 } : State).estep.toNat ≤ 2 ^ 30 ∧
    ({ tiny with epos := 0x40000000 } : State).epos.toNat < 96 * 2 ^ 25 ∧
    32 ≤ ({ tiny with epos := 0x40000000 } : State).envIndex := by decide

/-- `NoiseSeedStepIsABijection`. -/
theorem witness_taps : vectorCfg.lfsrTapA = 0 ∧ 0 < vectorCfg.lfsrTapB ∧ vectorCfg.lfsrTapB < 17 ∧ (1 : Lfsr) ≠ 0 := by
  decide

/-- `NoiseTicksOncePerSample`: the last position without a tick and the first with one. -/
theorem witness_noise_positions : ({ tiny with npos := 0xFFFF } : State).npos.toNat < 2 ^ tiny.cfg.noiseFracBits ∧
    2 ^ tiny.cfg.noiseFracBits ≤ ({ tiny with npos := 0x10000 } : State).npos.toNat := by decide

/-- `PinnedNoiseStaysPinned`. -/
theorem witness_pinned : Derived tiny ∧ tiny.nstep = 0 := ⟨tiny_derived, rfl⟩

/-- `DacTableIsNormalised`: an accepted configuration with and without centring, a table with a maximum that is
not 0, and an index whose voices A and C differ. -/
theorem witness_dac : CfgNumbersOk vectorCfg ∧ CfgNumbersOk { vectorCfg with doCenter := false } ∧
    (∃ j, rawAt (.linear exampleVoiceDac) j = 65535) ∧
    (0x7FE1 : Word3).toNat = (31 : Level).toNat * 1024 + (31 : Level).toNat * 32 + (1 : Level).toNat := by
  refine ⟨by decide, by decide, ⟨0x7FFF, by decide⟩, by decide⟩

/-- `LinearTableIsSymmetricAndMonotone`: the example table rises, and two indices differ in voice B alone. -/
theorem witness_monotone :
    (∀ x y : Level, x ≤ y → (exampleVoiceDac[x.toNat]'x.isLt).toNat ≤ (exampleVoiceDac[y.toNat]'y.isLt).toNat) ∧
    levelOf 1 0x0421 ≤ levelOf 1 0x0441 ∧ (∀ u : Fin 3, u ≠ 1 → levelOf u 0x0421 = levelOf u 0x0441) :=
  ⟨by decide +kernel, by decide, by decide⟩

/-- `SampleIsTheBooleanMix`, `DisabledSourcesGiveAConstant`, `ImportOfTheExportChangesNothing`. -/
theorem witness_sample : Inv tiny ∧ 25 ≤ tiny.cfg.envFracBits ∧ tiny.cfg.lpfEnable = false ∧ tiny.reg[7] = 0x3F ∧
    tiny.envMask3 = 0 ∧ tiny.npos.toNat ≤ 0xFFFF := ⟨tiny_inv, by decide, rfl, rfl, rfl, by decide⟩

/-- `tiny` with the filter on. -/
def tinyFiltered : State :=
  { State.created { tinyCfg with lpfEnable := true } (.linear exampleVoiceDac) with
    ring := [(5, 5), (0, 0), (0, 0), (0, 0)], wcur := 1, pending := 1, dcHist := [3, 0], dcIdx := 1, dcSum := 3
    cyc := 7 }

/-- `SampleIsTheBooleanMix` with the filter on. -/
theorem witness_filtered_sample : Inv tinyFiltered ∧ 25 ≤ tinyFiltered.cfg.envFracBits ∧
    tinyFiltered.cfg.lpfEnable = true :=
  ⟨⟨by decide, ⟨.linear exampleVoiceDac, rfl, rfl, rfl⟩, tiny_inv.regs,
    ⟨tiny_derived.tstep, tiny_derived.nstep, tiny_derived.estep, tiny_derived.gateT, tiny_derived.gateN,
      tiny_derived.envField, tiny_derived.volField, tiny_derived.shape, tiny_derived.tonePinned,
      tiny_derived.noisePinned⟩,
    tiny_inv.noise, tiny_inv.env, { tiny_ring with }, { tiny_dc with }⟩, by decide, rfl⟩

/-- `FilterOutputIsExact`: a filter that is on, and one that is off. -/
theorem witness_filter : DcWf { tiny with cfg := { tinyCfg with lpfEnable := true } } ∧ tiny.cfg.lpfEnable = false :=
  ⟨⟨by decide, by decide, by decide⟩, rfl⟩

/-- `ConstantInputSettlesToZero`: the first settled sample, index `DC_N + 2`. -/
theorem witness_settled : CfgNumbersOk { tinyCfg with lpfEnable := true } ∧ tinyCfg.dcN ≤ 5 ∧ tinyCfg.dcN + 2 ≤ 5 ∧
    tinyCfg.dcN + 2 ≤ 4 ∧ 4 < 5 := by decide

/-- `AdvanceGeneratesAFrame`: a ring of the configured length with room for the sample due, and an index of the
samples. -/
theorem witness_advance : tiny.ring.length = tiny.cfg.ringCapacity ∧ samplesGenerated 182 tiny = 1 ∧
    samplesGenerated 182 tiny ≤ tiny.cfg.ringCapacity ∧ (∃ x, (samplesFrom 1 tiny)[0]? = some x) ∧
    (∀ i < 1, 3 ≠ (tiny.wcur + i) % tiny.cfg.ringCapacity) := ⟨by decide, by decide, by decide, ⟨_, rfl⟩, by decide⟩

/-- `CycleCarryIsBounded`: a call below a frame, one of exactly a frame's cycles with none carried, and the last count
of cycles that the frame clamp leaves alone, with the first it acts on. -/
theorem witness_cycles : CfgNumbersOk tiny.cfg ∧ (∃ t, exec (.advance 175) tiny = .next t) ∧
    samplesDue tiny.cfg (tiny.cyc + 175) < samplesPerFrame tiny.cfg ∧ ({ tiny with cyc := 0 } : State).cyc = 0 ∧
    (∃ t, exec (.advance tiny.cfg.cyclesPerFrame) { tiny with cyc := 0 } = .next t) ∧
    (tiny.cyc + 160430) * samplesPerFrame tiny.cfg / tiny.cfg.cyclesPerFrame = samplesPerFrame tiny.cfg ∧
    ¬(tiny.cyc + 160431) * samplesPerFrame tiny.cfg / tiny.cfg.cyclesPerFrame ≤ samplesPerFrame tiny.cfg :=
  ⟨by decide, ⟨_, rfl⟩, by decide, rfl, ⟨_, rfl⟩, by decide, by decide⟩

/-- `SampleCountTracksTheCycles`. -/
theorem witness_cycle_run : CfgNumbersOk { tiny with cyc := 0 }.cfg ∧ ({ tiny with cyc := 0 } : State).cyc = 0 ∧
    ([181, 182] : List Nat) ≠ [] ∧ ∃ t, execAll ([181, 182].map .advance) { tiny with cyc := 0 } = .next t :=
  ⟨by decide, rfl, by decide, ⟨_, rfl⟩⟩

/-- `ConsumeTakesTheOldestPairs`, `ConsumeCommutesWithWrites`: one more than pending, and exactly all pending. -/
theorem witness_consume : tiny.pending < 2 ∧ 1 ≤ tiny.pending ∧ 0 < 1 := by decide

/-- `RingIsAQueue`. -/
theorem witness_queue : RingWf tiny ∧ (∃ t, exec (.advance 182) tiny = .next t) ∧ (∃ t, exec (.consume 1) tiny = .next t) :=
  ⟨tiny_ring, ⟨_, rfl⟩, ⟨_, rfl⟩⟩

/-- `ImportTakesAConsistentRecord`, `ConsistentRecordsAreThoseOfAState`: a record of each kind. -/
theorem witness_records : consistent tinyCfg .zero = false ∧ consistent tinyCfg (snapshotOf tiny) = true := by
  decide +kernel

/-- `ExportWithATickDueIsRefused`: the first position above the bound. -/
theorem witness_tick_due : 0xFFFF < ({ tiny with npos := 0x10000 } : State).npos.toNat := by decide

/-- An import of a consistent record runs. -/
theorem importRuns (σ : Snapshot) (s : State) (h : consistent s.cfg σ = true) : ∃ v, exec (.snapImport σ) s = .next v :=
  ⟨gatesUpdate (importFields σ s), if_pos h⟩

/-- `ImportReplaysTheSamples`: an instance that has gone elsewhere imports the record. -/
theorem witness_replay : ∃ v, exec (.snapImport (snapshotOf tiny)) { tiny with epos := 99, shape := 3, reg := tiny.reg.set 13 3 } =
    .next v :=
  importRuns (snapshotOf tiny) _ (by decide +kernel)

/-- `CreateBuildsAnInstance`, `CreatedInstanceMeetsTheInvariants`: an accepted configuration and a rejected one. -/
theorem witness_create : CfgNumbersOk tinyCfg ∧ dacSource tinyCfg = some (.linear exampleVoiceDac) ∧
    ¬CfgNumbersOk { tinyCfg with sampleRate := 0 } := by decide

/-- `EveryStepKeepsTheInvariants`: a state with a command waiting. -/
theorem witness_step : Inv (tiny.withFetchWord 16 0x0D0A) ∧ ∃ t, step (tiny.withFetchWord 16 0x0D0A) = .next t :=
  ⟨⟨tiny_inv.cfg, tiny_inv.tables, tiny_inv.regs,
    { tiny_derived with }, tiny_inv.noise, tiny_inv.env, { tiny_ring with }, { tiny_dc with }⟩, ⟨_, rfl⟩⟩

/-- `SeedChangesOnlyWhereListed`. -/
theorem witness_seed_change : ∃ t, exec .reset { tiny with seed := 5 } = .next t ∧ t.seed ≠ ({ tiny with seed := 5 } : State).seed :=
  ⟨_, rfl, by decide⟩

/-- `FlagIsRaisedByTheShapeWriteAlone`. -/
theorem witness_flag : tiny.shapeChanged = false ∧ ∃ t, exec (.writeR13 0) tiny = .next t ∧ t.shapeChanged = true :=
  ⟨rfl, _, rfl, rfl⟩

/-- `FreeValueIsNeverReadAtTheDefaults`. -/
theorem witness_no_free_value : Inv tiny ∧ 25 ≤ tiny.cfg.envFracBits ∧ ∃ t, exec .nextSample tiny = .next t :=
  ⟨tiny_inv, by decide, ⟨_, rfl⟩⟩

end Sys2Proof.Tests
end

section
/-!
PROOFS. What an operation that completes can leave, said once for all operations, and the frame of the configuration
and the tables that follows from it.
-/

namespace Sys2Proof.Machine

variable (s : State)

/-! ### The operations that complete -/

/-- The effect of `WRITE r, d` (R100 to R117). -/
def writeEffect (r : BitVec 4) (d : Byte) (s : State) : State :=
  match r.toNat with
  | 0 => writeR0 d s
  | 1 => writeR1 d s
  | 2 => writeR2 d s
  | 3 => writeR3 d s
  | 4 => writeR4 d s
  | 5 => writeR5 d s
  | 6 => writeR6 d s
  | 7 => writeR7 d s
  | 8 => writeR8 d s
  | 9 => writeR9 d s
  | 10 => writeR10 d s
  | 11 => writeR11 d s
  | 12 => writeR12 d s
  | 13 => writeR13 d s
  | _ => s

/-- The effect of `ADVANCE c` (R200). -/
def advanceEffect (c : Nat) (s : State) : State :=
  { afterSamples (samplesGenerated c s) s with
    ring := fillRing s.cfg.ringCapacity s.wcur (samplesFrom (samplesGenerated c s) s) s.ring
    wcur := (s.wcur + samplesGenerated c s) % s.cfg.ringCapacity
    pending := s.pending + samplesGenerated c s
    cyc := cyclesLeft s.cfg (s.cyc + c) (samplesDue s.cfg (s.cyc + c))
    outbox := s.outbox ++ [.notify s.wcur (samplesGenerated c s)] }

/-- The effect of `CONSUME k` where it is not refused (R203). -/
def consumeEffect (k : Nat) (s : State) : State :=
  { s with rcur := (s.rcur + k) % s.cfg.ringCapacity, pending := s.pending - k }.emit (.pairs (s.ringPairs k))

/-- `Completes s i t`: the operation `i` completes from `s` and leaves `t`, one constructor per kind of operation,
under its condition where it can be refused. -/
inductive Completes (s : State) : Instr → State → Prop where
  | write (r : BitVec 4) (d : Byte) : Completes s (.write r d) (writeEffect r d s)
  | reset : Completes s .reset (resetState s)
  | advance (c : Nat) : Completes s (.advance c) (advanceEffect c s)
  | consume (k : Nat) (h : k ≤ s.pending) : Completes s (.consume k) (consumeEffect k s)
  | ackShape : Completes s .ackShape (s.clearShapeChanged.emit (.shapeFlag s.shapeChanged))
  | snapExport : Completes s .snapExport (s.emit (.snapshot (snapshotOf s)))
  | snapImport (σ : Snapshot) (h : consistent s.cfg σ = true) :
      Completes s (.snapImport σ) (gatesUpdate (importFields σ s))
  | nextSample : Completes s .nextSample ((nextSample s).2.emit (.sample (nextSample s).1))
  | create (cfg : Cfg) (src : DacSource) (hsrc : dacSource cfg = some src) (hcfg : CfgNumbersOk cfg) :
      Completes s (.create cfg) (resetState { s with cfg := cfg, envTab := envTable, dacTab := dacTable src cfg })

theorem exec_write (r : BitVec 4) (d : Byte) : exec (.write r d) s = .next (writeEffect r d s) := by
  obtain ⟨⟨n, hn⟩⟩ := r
  interval_cases n <;> rfl

theorem exec_advance (c : Nat) : exec (.advance c) s = .next (advanceEffect c s) := execAdvance_eq s c

theorem exec_consume {k : Nat} (h : k ≤ s.pending) : exec (.consume k) s = .next (consumeEffect k s) :=
  if_neg (Nat.not_lt.mpr h)

theorem exec_snapImport {σ : Snapshot} (h : consistent s.cfg σ = true) :
    exec (.snapImport σ) s = .next (gatesUpdate (importFields σ s)) :=
  if_pos h

theorem exec_create {cfg : Cfg} {src : DacSource} (hsrc : dacSource cfg = some src) (hcfg : CfgNumbersOk cfg) :
    exec (.create cfg) s =
      .next (resetState { s with cfg := cfg, envTab := envTable, dacTab := dacTable src cfg }) := by
  simp only [exec, execCreate, hsrc, if_pos hcfg]

variable {s} {t : State} {i : Instr}

theorem completes_of_exec_write {r : BitVec 4} {d : Byte} (h : exec (.write r d) s = .next t) :
    Completes s (.write r d) t := by
  rw [exec_write] at h
  cases h
  exact .write r d

theorem completes_of_exec_consume {k : Nat} (h : exec (.consume k) s = .next t) : Completes s (.consume k) t := by
  by_cases hk : k ≤ s.pending
  · rw [exec_consume s hk] at h
    cases h
    exact .consume k hk
  · cases (if_pos (Nat.lt_of_not_le hk)).symm.trans h

theorem completes_of_exec_snapImport {σ : Snapshot} (h : exec (.snapImport σ) s = .next t) :
    Completes s (.snapImport σ) t := by
  by_cases hσ : consistent s.cfg σ = true
  · rw [exec_snapImport s hσ] at h
    cases h
    exact .snapImport σ hσ
  · cases (if_neg hσ).symm.trans h

theorem completes_of_exec_create {cfg : Cfg} (h : exec (.create cfg) s = .next t) : Completes s (.create cfg) t := by
  simp only [exec, execCreate] at h
  split at h
  · cases h
  · next src hsrc =>
    split at h
    · next hcfg =>
      cases h
      exact .create cfg src hsrc hcfg
    · cases h

theorem completes_of_exec (h : exec i s = .next t) : Completes s i t := by
  cases i with
  | writeR0 d => exact completes_of_exec_write (r := 0) h
  | writeR1 d => exact completes_of_exec_write (r := 1) h
  | writeR2 d => exact completes_of_exec_write (r := 2) h
  | writeR3 d => exact completes_of_exec_write (r := 3) h
  | writeR4 d => exact completes_of_exec_write (r := 4) h
  | writeR5 d => exact completes_of_exec_write (r := 5) h
  | writeR6 d => exact completes_of_exec_write (r := 6) h
  | writeR7 d => exact completes_of_exec_write (r := 7) h
  | writeR8 d => exact completes_of_exec_write (r := 8) h
  | writeR9 d => exact completes_of_exec_write (r := 9) h
  | writeR10 d => exact completes_of_exec_write (r := 10) h
  | writeR11 d => exact completes_of_exec_write (r := 11) h
  | writeR12 d => exact completes_of_exec_write (r := 12) h
  | writeR13 d => exact completes_of_exec_write (r := 13) h
  | writeR14 d => exact completes_of_exec_write (r := 14) h
  | writeR15 d => exact completes_of_exec_write (r := 15) h
  | reset => cases h; exact .reset
  | advance c =>
    rw [exec_advance] at h
    cases h
    exact .advance c
  | consume k => exact completes_of_exec_consume h
  | ackShape => cases h; exact .ackShape
  | snapExport => cases h; exact .snapExport
  | snapImport σ => exact completes_of_exec_snapImport h
  | reservedOperand1 | reservedOperand2 | reservedOperand3 | reservedOperand4 | reservedOperand5 | reservedOperand6 =>
    cases h
  | reserved7 | reserved8 | reserved9 | reservedA | reservedB | reservedC | reservedD | reservedE | reservedF =>
    cases h
  | nextSample => cases h; exact .nextSample
  | create cfg => exact completes_of_exec_create h

/-- An operation answers a next state exactly as `Completes` lists it; the reserved words never do (R76). -/
theorem exec_eq_next_iff : exec i s = .next t ↔ Completes s i t := by
  refine ⟨completes_of_exec, fun h => ?_⟩
  cases h with
  | write r d => exact exec_write s r d
  | reset | ackShape | snapExport | nextSample => rfl
  | advance c => exact exec_advance s c
  | consume k hk => exact exec_consume s hk
  | snapImport σ hσ => exact exec_snapImport s hσ
  | create cfg src hsrc hcfg => exact exec_create s hsrc hcfg

/-! ### The configuration and the tables -/

variable (s)

/-- What a register write can change: the registers, the generators' state but for the seed, and the flag. -/
theorem writeEffect_frame (r : BitVec 4) (d : Byte) :
    writeEffect r d s = { s with
      reg := (writeEffect r d s).reg, pos := (writeEffect r d s).pos, tstep := (writeEffect r d s).tstep
      gateT := (writeEffect r d s).gateT, gateN := (writeEffect r d s).gateN
      vol3 := (writeEffect r d s).vol3, envMask3 := (writeEffect r d s).envMask3
      nstep := (writeEffect r d s).nstep, npos := (writeEffect r d s).npos, nlev := (writeEffect r d s).nlev
      estep := (writeEffect r d s).estep, epos := (writeEffect r d s).epos, shape := (writeEffect r d s).shape
      shapeChanged := (writeEffect r d s).shapeChanged } := by
  unfold writeEffect
  split <;> rfl

@[simp] theorem writeEffect_cfg (r : BitVec 4) (d : Byte) : (writeEffect r d s).cfg = s.cfg := by
  rw [writeEffect_frame]

@[simp] theorem writeEffect_envTab (r : BitVec 4) (d : Byte) : (writeEffect r d s).envTab = s.envTab := by
  rw [writeEffect_frame]

@[simp] theorem writeEffect_dacTab (r : BitVec 4) (d : Byte) : (writeEffect r d s).dacTab = s.dacTab := by
  rw [writeEffect_frame]

/-- The loop of R250 is fourteen register writes. -/
theorem resetRegisters_eq :
    resetRegisters s =
      (s |> writeEffect 0 0 |> writeEffect 1 0 |> writeEffect 2 0 |> writeEffect 3 0 |> writeEffect 4 0
        |> writeEffect 5 0 |> writeEffect 6 0 |> writeEffect 7 0xFF |> writeEffect 8 0 |> writeEffect 9 0
        |> writeEffect 10 0 |> writeEffect 11 0 |> writeEffect 12 0 |> writeEffect 13 0) := rfl

/-- The loop of R250 keeps what every register write keeps. -/
theorem resetRegisters_keeps {α : Type} (f : State → α) (hf : ∀ r d u, f (writeEffect r d u) = f u) :
    f (resetRegisters s) = f s := by
  simp only [resetRegisters_eq, hf]

@[simp] theorem resetState_cfg : (resetState s).cfg = s.cfg :=
  resetRegisters_keeps s State.cfg fun r d u => writeEffect_cfg u r d

@[simp] theorem resetState_envTab : (resetState s).envTab = s.envTab :=
  resetRegisters_keeps s State.envTab fun r d u => writeEffect_envTab u r d

@[simp] theorem resetState_dacTab : (resetState s).dacTab = s.dacTab :=
  resetRegisters_keeps s State.dacTab fun r d u => writeEffect_dacTab u r d

@[simp] theorem afterSamples_envTab (n : Nat) : (afterSamples n s).envTab = s.envTab := by
  induction n generalizing s with
  | zero => rfl
  | succ n ih => rw [afterSamples, ih, nextSample_envTab]

@[simp] theorem afterSamples_dacTab (n : Nat) : (afterSamples n s).dacTab = s.dacTab := by
  induction n generalizing s with
  | zero => rfl
  | succ n ih => rw [afterSamples, ih, nextSample_dacTab]

/-- Settles O53: of the operations that complete, `CREATE` alone puts other tables in the state; samples keep them by
induction on their number, and the rest do not write the three fields. -/
theorem tablesAreWrittenByCreateAlone : Obligations.TablesAreWrittenByCreateAlone := by
  intro i s t h hcreate
  cases completes_of_exec h with
  | write r d => exact ⟨writeEffect_cfg s r d, writeEffect_envTab s r d, writeEffect_dacTab s r d⟩
  | reset => exact ⟨resetState_cfg s, resetState_envTab s, resetState_dacTab s⟩
  | consume | ackShape | snapExport | snapImport => exact ⟨rfl, rfl, rfl⟩
  | advance c => simp [advanceEffect]
  | nextSample => simp
  | create cfg => exact absurd rfl (hcreate cfg)

end Sys2Proof.Machine
end

section
/-!
PROOFS. The step of the noise seed (`43_noise.md` R140): its bits, and that it is one-to-one (R26).
-/

namespace Sys2Proof.Machine

variable (cfg : Cfg) (seed : Lfsr)

/-- The feedback bit is the xor of the two taps, with nothing above bit 0. -/
theorem feedbackBit_getLsbD (i : Nat) :
    (feedbackBit cfg seed).getLsbD i =
      (decide (i = 0) && (seed.getLsbD cfg.lfsrTapA != seed.getLsbD cfg.lfsrTapB)) := by
  rcases i with _ | i <;> simp [feedbackBit]

theorem feedbackBit_eq_one_iff :
    feedbackBit cfg seed = 1 ↔ (seed.getLsbD cfg.lfsrTapA != seed.getLsbD cfg.lfsrTapB) = true := by
  constructor
  · intro h
    simpa [h] using (feedbackBit_getLsbD cfg seed 0).symm
  · intro h
    apply BitVec.eq_of_getLsbD_eq
    intro i _
    rw [feedbackBit_getLsbD, h]
    rcases i with _ | i <;> simp

theorem nextSeed_getLsbD_of_lt {i : Nat} (hi : i < 16) :
    (nextSeed cfg seed).getLsbD i = seed.getLsbD (i + 1) := by
  simp [nextSeed, Config.lfsrWidth, hi, Nat.add_comm]

theorem nextSeed_getLsbD_top :
    (nextSeed cfg seed).getLsbD 16 = (seed.getLsbD cfg.lfsrTapA != seed.getLsbD cfg.lfsrTapB) := by
  have hbit := feedbackBit_getLsbD cfg seed 0
  simpa [nextSeed, Config.lfsrWidth] using hbit

/-- The mask is 0 exactly where the feedback bit is 1. -/
theorem toggleMask_eq :
    toggleMask cfg seed =
      if seed.getLsbD cfg.lfsrTapA != seed.getLsbD cfg.lfsrTapB then 0x0000 else 0xFFFF := by
  simp only [toggleMask, feedbackBit_eq_one_iff]

variable {cfg}

/-- The bit shifted out is recovered from the feedback bit: the other tap is among the bits that are kept. -/
theorem nextSeed_injective (ha : cfg.lfsrTapA = 0) (hb : 0 < cfg.lfsrTapB) (hb17 : cfg.lfsrTapB < 17) :
    Function.Injective (nextSeed cfg) := by
  intro x y hxy
  have kept : ∀ i < 16, x.getLsbD (i + 1) = y.getLsbD (i + 1) := by
    intro i hi
    rw [← nextSeed_getLsbD_of_lt cfg x hi, hxy, nextSeed_getLsbD_of_lt cfg y hi]
  have tap : x.getLsbD cfg.lfsrTapB = y.getLsbD cfg.lfsrTapB := by
    simpa [Nat.sub_add_cancel hb] using kept (cfg.lfsrTapB - 1) (by omega)
  have out : x.getLsbD 0 = y.getLsbD 0 := by
    have top := nextSeed_getLsbD_top cfg x
    rw [hxy, nextSeed_getLsbD_top, ha, tap] at top
    exact (Bool.xor_left_inj.mp top).symm
  apply BitVec.eq_of_getLsbD_eq
  intro i hi
  cases i with
  | zero => exact out
  | succ i => exact kept i (by omega)

/-- Settles O24: the seed's bits one by one, and a one-to-one map of a finite set onto itself. -/
theorem noiseSeedStepIsABijection : Obligations.NoiseSeedStepIsABijection := by
  intro cfg ha hb hb17
  refine ⟨fun seed => ⟨fun _ => nextSeed_getLsbD_of_lt cfg seed, ?_, ?_, nextSeed_ne_zero cfg ha hb seed⟩, ?_⟩
  · rw [nextSeed_getLsbD_top, ha]
  · rw [toggleMask_eq, ha]
  · exact Finite.injective_iff_bijective.mp (nextSeed_injective ha hb hb17)

end Sys2Proof.Machine
end

section
/-!
PROOFS. The ring read as a queue (`10_state.md` R30): what the pairs from the read cursor on become when one is
stored behind them, and when the first ones are taken.
-/

namespace Sys2Proof.Machine

variable (s : State)

/-- The oldest `k + m` pairs are the oldest `k`, then `m` from the cursor `k` slots on. -/
theorem ringPairs_add (k m : Nat) :
    s.ringPairs (k + m) =
      s.ringPairs k ++ ({ s with rcur := (s.rcur + k) % s.cfg.ringCapacity } : State).ringPairs m := by
  simp [State.ringPairs, State.ringAt, List.range_add, Function.comp_def, Nat.add_assoc]

/-- The pairs depend on the ring, the read cursor and the capacity alone. -/
theorem ringPairs_congr {t : State} (hring : t.ring = s.ring) (hrcur : t.rcur = s.rcur) (hcfg : t.cfg = s.cfg)
    (k : Nat) : t.ringPairs k = s.ringPairs k := by
  simp only [State.ringPairs, State.ringAt, hring, hrcur, hcfg]

/-- Two offsets below the capacity give two slots. -/
theorem ringSlot_ne {cap r i j : Nat} (hij : i < j) (hj : j < cap) : (r + j) % cap ≠ (r + i) % cap := by
  intro h
  have hmod : j ≡ i [MOD cap] := Nat.ModEq.add_left_cancel' r h
  exact absurd (hmod.eq_of_lt_of_lt hj (hij.trans hj)) (Nat.ne_of_gt hij)

/-- A pair stored in the first slot behind `p` pairs comes behind them. -/
theorem ringPairs_ringPut {p : Nat} (x : StereoPair) (hlen : s.ring.length = s.cfg.ringCapacity)
    (hp : p < s.cfg.ringCapacity) :
    (s.ringPut ((s.rcur + p) % s.cfg.ringCapacity) x).ringPairs (p + 1) = s.ringPairs p ++ [x] := by
  have hslot : ∀ j, (s.rcur + j) % s.cfg.ringCapacity < s.ring.length := fun j => by
    rw [hlen]
    exact Nat.mod_lt _ (Nat.zero_lt_of_lt hp)
  simp only [State.ringPairs, ringPut_rcur, ringPut_cfg, List.range_succ, List.map_append, List.map_singleton,
    ringPut_ringAt _ _ _ _ (hslot _), if_true]
  congr 1
  apply List.map_congr_left
  intro j hj
  rw [if_neg (ringSlot_ne (List.mem_range.mp hj) hp)]

/-- The samples `xs` stored from the first slot behind `p` pairs on come behind them in order (R200). -/
theorem ringPairs_fillRing (xs : List Sample) {p : Nat} (hlen : s.ring.length = s.cfg.ringCapacity)
    (hp : p + xs.length ≤ s.cfg.ringCapacity) :
    ({ s with ring := fillRing s.cfg.ringCapacity (s.rcur + p) xs s.ring } : State).ringPairs (p + xs.length) =
      s.ringPairs p ++ xs.map fun x => (x, x) := by
  induction xs generalizing s p with
  | nil => simp [fillRing]
  | cons x xs ih =>
    rw [List.length_cons] at hp
    have hrest := ih (s.ringPut ((s.rcur + p) % s.cfg.ringCapacity) (x, x)) (p := p + 1)
      ((ringPut_length s _ _).trans hlen) (by rw [ringPut_cfg]; omega)
    rw [ringPairs_ringPut s (x, x) hlen (by omega), List.append_assoc] at hrest
    rw [List.length_cons, Nat.add_comm xs.length, ← Nat.add_assoc]
    exact hrest

/-- The slot that filling starts from counts modulo the capacity. -/
theorem fillRing_mod (cap j : Nat) (xs : List Sample) (r : List StereoPair) :
    fillRing cap (j % cap) xs r = fillRing cap j xs r := by
  induction xs generalizing j r with
  | nil => rfl
  | cons x xs ih => rw [fillRing, fillRing, Nat.mod_mod, ← ih (j % cap + 1), Nat.mod_add_mod, ih]

@[simp] theorem afterSamples_rcur (n : Nat) : (afterSamples n s).rcur = s.rcur := by
  rw [afterSamples_path]
  rfl

variable {s}

/-- `ADVANCE` puts its samples behind the queued pairs (R200, R202). -/
theorem queued_advanceEffect (h : RingWf s) (c : Nat) :
    queued (advanceEffect c s) = queued s ++ (samplesFrom (samplesGenerated c s) s).map fun x => (x, x) := by
  obtain ⟨hlen, -, -, hpending, hcursors⟩ := h
  have hroom : samplesGenerated c s ≤ s.cfg.ringCapacity - s.pending := Nat.min_le_right _ _
  have hfill := ringPairs_fillRing s (samplesFrom (samplesGenerated c s) s) (p := s.pending) hlen
    (by rw [samplesFrom_length]; omega)
  rw [← fillRing_mod, hcursors, samplesFrom_length] at hfill
  have hcongr := ringPairs_congr
    { s with ring := fillRing s.cfg.ringCapacity s.wcur (samplesFrom (samplesGenerated c s) s) s.ring }
    (t := advanceEffect c s) rfl (afterSamples_rcur s _) (afterSamples_cfg s _)
  exact (hcongr _).trans hfill

/-- `CONSUME` splits the queued pairs into those it hands out and those it leaves (R203). -/
theorem queued_eq_append_consumeEffect {k : Nat} (hk : k ≤ s.pending) :
    queued s = s.ringPairs k ++ queued (consumeEffect k s) := by
  have hadd := ringPairs_add s k (s.pending - k)
  rwa [Nat.add_sub_cancel' hk] at hadd

/-- Settles O39: `ADVANCE` appends to the queue, and `CONSUME` splits it behind the first `k` pairs. -/
theorem ringIsAQueue : Obligations.RingIsAQueue := by
  refine fun s hs => ⟨fun c t h => ?_, fun k t h => ?_⟩
  · cases (exec_advance s c).symm.trans h
    exact queued_advanceEffect hs c
  · by_cases hk : k ≤ s.pending
    · cases (exec_consume s hk).symm.trans h
      rw [queued_eq_append_consumeEffect hk, List.take_left' (ringPairs_length s k),
        List.drop_left' (ringPairs_length s k)]
      exact ⟨rfl, rfl⟩
    · cases (if_pos (Nat.lt_of_not_le hk)).symm.trans h

end Sys2Proof.Machine
end

section
/-!
PROOFS. The flag `shapeChanged` (`10_state.md` R28): what each operation that completes leaves in it.
-/

namespace Sys2Proof.Machine

variable (s : State)

/-- A write to another index than 13 leaves the flag alone. -/
theorem writeEffect_shapeChanged {r : BitVec 4} (hr : r ≠ 13) (d : Byte) :
    (writeEffect r d s).shapeChanged = s.shapeChanged := by
  unfold writeEffect
  split
  case h_14 h13 => exact absurd (BitVec.eq_of_toNat_eq h13) hr
  all_goals rfl

@[simp] theorem resetState_shapeChanged : (resetState s).shapeChanged = false := rfl

@[simp] theorem afterSamples_shapeChanged (n : Nat) : (afterSamples n s).shapeChanged = s.shapeChanged := by
  rw [afterSamples_path]
  rfl

/-- Settles O56: of the operations that complete, `WRITE 13` alone raises the flag; `RESET`, `CREATE` and `ACK_SHAPE`
clear it, and the rest leave it. -/
theorem flagIsRaisedByTheShapeWriteAlone : Obligations.FlagIsRaisedByTheShapeWriteAlone := by
  intro i s t h hclear hraised
  have hne : t.shapeChanged ≠ s.shapeChanged := by simp [hclear, hraised]
  cases completes_of_exec h with
  | write r d =>
    by_cases hr : r = 13
    · exact ⟨d, hr ▸ rfl⟩
    · exact absurd (writeEffect_shapeChanged s hr d) hne
  | reset | ackShape | create => cases hraised
  | consume | snapExport | snapImport => exact absurd rfl hne
  | advance c => exact absurd (afterSamples_shapeChanged s _) hne
  | nextSample => exact absurd (nextSample_shapeChanged s) hne

end Sys2Proof.Machine
end

section
/-!
PROOFS. The reserved words (`30_encoding.md` R76): what a step answers on a command whose word is reserved, and the
bits of a `WRITE` that have no effect.
-/

namespace Sys2Proof.Machine

variable (s : State)

/-- A step runs the oldest command (R55, R58). -/
theorem step_of_inbox {c : Command} {rest : List Command} (h : s.inbox = c :: rest) :
    step s = exec (decode c) { s with inbox := rest } := by
  simp only [step, h]

/-! ### Words and their fields -/

theorem extractLsb'_class_toNat (w : CmdWord) : (w.extractLsb' 12 4).toNat = w.toNat / 4096 := by
  rw [BitVec.extractLsb'_toNat, Nat.shiftRight_eq_div_pow]
  omega

theorem extractLsb'_low_toNat (w : CmdWord) : (w.extractLsb' 0 12).toNat = w.toNat % 4096 :=
  BitVec.extractLsb'_toNat ..

theorem extractLsb'_index_toNat (w : CmdWord) : (w.extractLsb' 8 4).toNat = w.toNat / 256 % 16 := by
  rw [BitVec.extractLsb'_toNat, Nat.shiftRight_eq_div_pow]

/-- A word of class 0 is a `WRITE` of its data byte to its index (R75). -/
theorem decode_of_class_zero {c : Command} (h : c.word.toNat / 4096 = 0) :
    decode c = .write (c.word.extractLsb' 8 4) (c.word.extractLsb' 0 8) := by
  simp only [decode, extractLsb'_class_toNat, h]

theorem wordW_class (r : BitVec 4) (d : Byte) : (wordW r d).extractLsb' 12 4 = 0 :=
  (BitVec.extractLsb'_append_eq_of_le (by decide)).trans BitVec.extractLsb'_append_eq_left

theorem wordW_index (r : BitVec 4) (d : Byte) : (wordW r d).extractLsb' 8 4 = r :=
  (BitVec.extractLsb'_append_eq_of_le (by decide)).trans BitVec.extractLsb'_append_eq_right

theorem wordW_data (r : BitVec 4) (d : Byte) : (wordW r d).extractLsb' 0 8 = d := BitVec.extractLsb'_append_eq_right

/-- Format `W` is read back as the `WRITE` it stands for (R70, R75). -/
theorem decode_wordW {c : Command} {r : BitVec 4} {d : Byte} (h : c.word = wordW r d) : decode c = .write r d := by
  have hclass : c.word.toNat / 4096 = 0 := by rw [← extractLsb'_class_toNat, h, wordW_class]; rfl
  rw [decode_of_class_zero hclass, h, wordW_index, wordW_data]

/-- A high byte that numbers a register is class 0 and the register's index (R70). -/
theorem append_eq_wordW (r : Fin 14) (d : Byte) : BitVec.ofNat 8 r.val ++ d = wordW (BitVec.ofNat 4 r.val) d := by
  rw [wordW]
  congr 1
  revert r; decide

/-- A word of the reserved classes is refused as a whole (R76). -/
theorem exec_decode_of_reserved_class {c : Command} (h : 7 ≤ c.word.toNat / 4096) :
    exec (decode c) s = .refused .reservedOp := by
  have h15 : c.word.toNat / 4096 ≤ 15 := by omega
  simp only [decode, extractLsb'_class_toNat]
  generalize c.word.toNat / 4096 = op at h h15 ⊢
  interval_cases op <;> rfl

/-- A word of the classes 1 to 6 is refused for its low bits unless they are all 0 (R76). -/
theorem exec_decode_of_operand_bits {c : Command} (h1 : 1 ≤ c.word.toNat / 4096) (h6 : c.word.toNat / 4096 ≤ 6)
    (hlow : c.word.toNat % 4096 ≠ 0) : exec (decode c) s = .refused .reservedOperandBits := by
  have hne : c.word.extractLsb' 0 12 ≠ 0 := fun e => hlow <| by rw [← extractLsb'_low_toNat, e]; rfl
  simp only [decode, extractLsb'_class_toNat, if_neg hne]
  generalize c.word.toNat / 4096 = op at h1 h6 ⊢
  interval_cases op <;> rfl

/-! ### Writes -/

/-- A write to an index that holds no register changes nothing (R116). -/
theorem writeEffect_of_no_register {r : BitVec 4} (hr : 14 ≤ r.toNat) (d : Byte) : writeEffect r d s = s := by
  unfold writeEffect
  split
  iterate 14 omega
  rfl

/-- A write depends on the byte only under the mask of its register: what follows the store reads the register. -/
theorem writeEffect_mask : ∀ (r : Fin 14) (d : Byte),
    writeEffect (BitVec.ofNat 4 r.val) (d &&& regMask[r]) s = writeEffect (BitVec.ofNat 4 r.val) d s
  | 0, d | 1, d => congrArg (toneUpdate 0) (putReg_mask s _ d)
  | 2, d | 3, d => congrArg (toneUpdate 1) (putReg_mask s _ d)
  | 4, d | 5, d => congrArg (toneUpdate 2) (putReg_mask s _ d)
  | 6, d => congrArg noiseUpdate (putReg_mask s _ d)
  | 7, d => congrArg gatesUpdate (putReg_mask s _ d)
  | 8, d => congrArg (ampUpdate 0) (putReg_mask s _ d)
  | 9, d => congrArg (ampUpdate 1) (putReg_mask s _ d)
  | 10, d => congrArg (ampUpdate 2) (putReg_mask s _ d)
  | 11, d | 12, d => congrArg envUpdate (putReg_mask s _ d)
  | 13, d => congrArg shapeUpdate (putReg_mask s _ d)

/-! ### The obligations -/

/-- Settles O7: `exec` gives each of the fifteen rows an arm that refuses, whatever the low bits. -/
theorem reservedRowsStopByName : Obligations.ReservedRowsStopByName := by
  refine fun low s => ⟨⟨?_, ?_, ?_, ?_, ?_, ?_⟩, ?_, ?_, ?_, ?_, ?_, ?_, ?_, ?_, ?_⟩ <;> rfl

/-- Settles O6, class by class: a step runs what the word decodes to, and a register takes a byte under its mask. -/
theorem reservedWordsAreRefused : Obligations.ReservedWordsAreRefused := by
  intro s c rest hinbox
  rw [step_of_inbox s hinbox]
  refine ⟨exec_decode_of_reserved_class _, exec_decode_of_operand_bits _, fun h => ?_, fun r d hw => ?_⟩
  · have hindex : 14 ≤ (c.word.extractLsb' 8 4).toNat := by rw [extractLsb'_index_toNat]; omega
    rw [decode_of_class_zero (by omega), exec_write, writeEffect_of_no_register _ hindex]
  · rw [append_eq_wordW] at hw ⊢
    rw [step_of_inbox _ rfl, decode_wordW hw, decode_wordW rfl, exec_write, exec_write, writeEffect_mask]

end Sys2Proof.Machine
end

section
/-!
PROOFS. The register writes (`40_register_interface.md` R100 to R117): the steps, the gates and the fields as plain
arithmetic on the bytes, and what each write leaves.
-/

namespace Sys2Proof.Machine

/-! ### Bytes -/

/-- `TP` as a number (R73). -/
theorem tonePeriod_eq (hi lo : Byte) : tonePeriod hi lo = hi.toNat % 16 * 256 + lo.toNat := by
  rw [tonePeriod, BitVec.toNat_append, ← Nat.shiftLeft_add_eq_or_of_lt lo.isLt, Nat.shiftLeft_eq]
  rfl

/-- `NP` as a number (R73). -/
theorem noisePeriod_eq (r : Byte) : noisePeriod r = r.toNat % 32 := rfl

/-- `EP` as a number (R73). -/
theorem envPeriod_eq (hi lo : Byte) : envPeriod hi lo = hi.toNat * 256 + lo.toNat := by
  rw [envPeriod, BitVec.toNat_append, ← Nat.shiftLeft_add_eq_or_of_lt lo.isLt, Nat.shiftLeft_eq]

/-- A low field is the same read from the byte as from the byte under a mask that covers the field. -/
theorem extractLsb'_and_mask {d m : Byte} {n : Nat} (h : m.extractLsb' 0 n = BitVec.allOnes n) :
    (d &&& m).extractLsb' 0 n = d.extractLsb' 0 n := by
  rw [BitVec.extractLsb'_and, h, BitVec.and_allOnes]

/-- A bit of a byte as arithmetic on its number. -/
theorem getLsbD_eq_true_iff_div_mod (d : Byte) (i : Nat) : d.getLsbD i = true ↔ d.toNat / 2 ^ i % 2 = 1 := by
  simp [BitVec.getLsbD, Nat.testBit_eq_decide_div_mod_eq]

/-- The mixer's mask keeps the bits of all six gates (R21, R108). -/
theorem gateOf_mixerMask (d : Byte) {i : Nat} (hi : i < 6) :
    gateOf (d &&& 0x3F) i = if d.toNat / 2 ^ i % 2 = 1 then 0xFFFF else 0x0000 := by
  have hbit : (0x3F : Byte).getLsbD i = true := by interval_cases i <;> rfl
  rw [gateOf, BitVec.getLsbD_and, hbit, Bool.and_true]
  exact if_congr (getLsbD_eq_true_iff_div_mod d i) rfl rfl

/-- The masks of the tone registers: a fine register keeps the byte, a coarse one its low four bits (R21). -/
theorem regMask_tone : ∀ (v : Fin 3) (k : Fin 2),
    regMask[2 * v.val + k.val] = if k = 0 then 0xFF else 0x0F := by decide

/-- The masks of the amplitude registers (R21). -/
theorem regMask_amp : ∀ v : Fin 3, regMask[8 + v.val] = 0x1F := by decide

/-! ### Steps -/

variable (cfg : Cfg)

/-- The quotient of R120 to R122 under its reduction to 32 bits. -/
theorem trunc32_quotient (shift period : Nat) :
    (trunc32 ((cfg.chipClock <<< shift) / (period * cfg.sampleRate))).toNat = stepQuotient cfg shift period := by
  rw [BitVec.toNat_ofNat, Nat.shiftLeft_eq]
  rfl

/-- `ToneStep` by the value of the period (R120). -/
theorem toneStep_toNat (hi lo : Byte) :
    (toneStep cfg hi lo).toNat =
      if tonePeriod hi lo ≤ 5 then 0 else stepQuotient cfg cfg.toneShift (tonePeriod hi lo) := by
  rw [← trunc32_quotient]
  exact apply_ite BitVec.toNat ..

/-- `NoiseStep` by the value of the period (R121). -/
theorem noiseStep_toNat (r : Byte) :
    (noiseStep cfg r).toNat =
      if noisePeriod r < 3 then 0 else stepQuotient cfg cfg.noiseShift (noisePeriod r) := by
  rw [← trunc32_quotient]
  exact apply_ite BitVec.toNat ..

/-- `EnvStep` by the value of the period (R122): half the truncated step of period 1 for period 0. -/
theorem envStep_toNat (hi lo : Byte) :
    (envStep cfg hi lo).toNat =
      if envPeriod hi lo = 0 then stepQuotient cfg cfg.envShift 1 / 2
      else stepQuotient cfg cfg.envShift (envPeriod hi lo) := by
  rw [← trunc32_quotient, ← trunc32_quotient]
  exact apply_ite BitVec.toNat ..

/-! ### What a write leaves -/

variable (d : Byte) (s : State)

/-- A write to either register of the pair of voice `v`, then `ToneUpdate(v)` (R100, R117). -/
theorem toneWritten_toneUpdate (v : Fin 3) (k : Fin 2) :
    ToneWritten v k d s (toneUpdate v (s.putReg ⟨2 * v.val + k.val, by omega⟩ d)) := by
  refine ⟨?_, ?_, ?_, fun u hu => ?_, rfl⟩
  · rw [← regMask_tone v k]
    rfl
  · rw [← tonePeriod_eq, toneUpdate_tstep, Fin.getElem_fin, Vector.getElem_set_self, toneStep_toNat]
    rfl
  · simp only [toneUpdate_tstep, toneUpdate_pos, Fin.getElem_fin, Vector.getElem_set_self]
    split
    · exact Vector.getElem_set_self ..
    · rfl
  · have hne : v.val ≠ u.val := fun e => hu (Fin.ext e.symm)
    refine ⟨Vector.getElem_set_ne v.isLt u.isLt hne, ?_⟩
    rw [toneUpdate_pos]
    split
    · exact Vector.getElem_set_ne v.isLt u.isLt hne
    · rfl

/-- A write to the amplitude register of voice `v`, then `AmpUpdate(v)` (R109, R117). -/
theorem ampWritten_ampUpdate (v : Fin 3) :
    AmpWritten v d s (ampUpdate v (s.putReg ⟨8 + v.val, by omega⟩ d)) := by
  have hreg : (s.putReg ⟨8 + v.val, by omega⟩ d).reg = s.reg.set (8 + v.val) (d &&& 0x1F) := by
    rw [← regMask_amp v]
    rfl
  have hmode : envMode (d &&& 0x1F) = d.getLsbD 4 := by simp [envMode]
  have hvol : (fixedVolume (d &&& 0x1F)).toNat = d.toNat % 16 := by
    rw [fixedVolume, extractLsb'_and_mask rfl]
    rfl
  obtain ⟨henv, hvol3⟩ := ampUpdate_spec (s.putReg ⟨8 + v.val, by omega⟩ d) v
  simp only [hreg, Vector.getElem_set_self, putReg_envMask3, putReg_vol3] at henv hvol3
  refine ⟨hreg, ?_, ?_, fun u hu => ?_, rfl⟩
  · rw [henv, levelOf_ampEnvWord, if_pos rfl, hmode]
    exact apply_ite BitVec.toNat ..
  · rw [hvol3, levelOf_ampVolWord, if_pos rfl, hmode, ← hvol, ← vol4to5_formula]
    exact apply_ite BitVec.toNat ..
  · rw [henv, hvol3, levelOf_ampEnvWord, levelOf_ampVolWord, if_neg hu, if_neg hu]
    exact ⟨rfl, rfl⟩

/-- A write to a register that keeps the whole byte, then the envelope's step update (R113, R114, R117). -/
theorem envPeriodWritten_envUpdate {r : Fin 14} (hr : regMask[r] = 0xFF) :
    EnvPeriodWritten r d s (envUpdate (s.putReg r d)) := by
  have hreg : (s.putReg r d).reg = s.reg.set r d := by
    rw [putReg_reg, hr]
    exact congrArg (s.reg.set r) BitVec.and_allOnes
  refine ⟨hreg, ?_, rfl⟩
  rw [← envPeriod_eq, envUpdate_estep, envStep_toNat]
  rfl

/-! ### The obligations -/

/-- Settles O9: each of the six writes is a store to a voice's register pair and that voice's tone update. -/
theorem toneWriteSetsStepAndSentinel : Obligations.ToneWriteSetsStepAndSentinel := fun d s =>
  ⟨⟨_, rfl, toneWritten_toneUpdate d s 0 0⟩, ⟨_, rfl, toneWritten_toneUpdate d s 0 1⟩,
    ⟨_, rfl, toneWritten_toneUpdate d s 1 0⟩, ⟨_, rfl, toneWritten_toneUpdate d s 1 1⟩,
    ⟨_, rfl, toneWritten_toneUpdate d s 2 0⟩, ⟨_, rfl, toneWritten_toneUpdate d s 2 1⟩⟩

/-- Settles O10: the noise update reads the byte just stored, whose low five bits are the period. -/
theorem noiseWriteSetsStepAndPins : Obligations.NoiseWriteSetsStepAndPins := by
  intro d s
  have hperiod : noisePeriod (d &&& 0x1F) = d.toNat % 32 := by
    rw [noisePeriod, extractLsb'_and_mask rfl]
    exact noisePeriod_eq d
  have hreg : (s.putReg 6 d).reg[6] = d &&& 0x1F := putReg_get s 6 d 6 (by decide)
  refine ⟨writeR6 d s, rfl, rfl, ?_, rfl, rfl, rfl⟩
  rw [writeR6, (noiseUpdate_spec _).1, hreg, noiseStep_toNat, hperiod]
  rfl

/-- Settles O11: the mixer's mask keeps the six gate bits, and each gate is read from its own. -/
theorem mixerWriteSetsTheGates : Obligations.MixerWriteSetsTheGates := by
  intro d s
  have hreg : (s.putReg 7 d).reg[7] = d &&& 0x3F := putReg_get s 7 d 7 (by decide)
  refine ⟨writeR7 d s, rfl, rfl, fun v => ⟨?_, ?_⟩, rfl⟩
  · rw [writeR7, gatesUpdate_gateT, hreg]
    exact gateOf_mixerMask d (by omega)
  · rw [writeR7, gatesUpdate_gateN, hreg]
    exact gateOf_mixerMask d (by omega)

/-- Settles O12: each of the three writes is a store to a voice's amplitude register and that voice's update. -/
theorem amplitudeWriteSetsTheVoiceFields : Obligations.AmplitudeWriteSetsTheVoiceFields := fun d s =>
  ⟨⟨_, rfl, ampWritten_ampUpdate d s 0⟩, ⟨_, rfl, ampWritten_ampUpdate d s 1⟩,
    ⟨_, rfl, ampWritten_ampUpdate d s 2⟩⟩

/-- Settles O13: both registers keep the whole byte, and the step is that of the pair then held. -/
theorem envelopePeriodWriteSetsTheStep : Obligations.EnvelopePeriodWriteSetsTheStep := fun d s =>
  ⟨⟨_, rfl, envPeriodWritten_envUpdate d s rfl⟩, ⟨_, rfl, envPeriodWritten_envUpdate d s rfl⟩⟩

/-- Settles O14: the shape is the low four bits of the byte, and the restart does not ask what was selected. -/
theorem shapeWriteRestartsTheEnvelope : Obligations.ShapeWriteRestartsTheEnvelope := by
  intro d s
  have hreg : (s.putReg 13 d).reg[13] = d &&& 0x0F := putReg_get s 13 d 13 (by decide)
  have hshape : (writeR13 d s).shape = d.extractLsb' 0 4 := by
    rw [writeR13, (shapeUpdate_spec _).1, hreg, extractLsb'_and_mask rfl]
  exact ⟨writeR13 d s, rfl, rfl, congrArg BitVec.toNat hshape, rfl, rfl, rfl⟩

/-- Settles O15: the arms of the two indices that hold no register answer the state they are given (R116). -/
theorem writeWithoutRegisterChangesNothing : Obligations.WriteWithoutRegisterChangesNothing := fun _ _ => ⟨rfl, rfl⟩

end Sys2Proof.Machine
end

section
/-!
PROOFS. The step computations (`41_step_computation.md` R120 to R122): the truncated quotient as a function of the
period.
-/

namespace Sys2Proof.Machine

/-! ### The quotient by period -/

variable {cfg : Cfg} {shift floor period : Nat}

/-- Once the quotient of a floor period fits 32 bits, no period from there on is truncated. -/
theorem stepQuotient_of_floor_fits (hrate : 0 < cfg.sampleRate) (hfloor : 0 < floor)
    (hfits : cfg.chipClock * 2 ^ shift / (floor * cfg.sampleRate) < 2 ^ 32) (hperiod : floor ≤ period) :
    stepQuotient cfg shift period = cfg.chipClock * 2 ^ shift / (period * cfg.sampleRate) :=
  Nat.mod_eq_of_lt ((Nat.div_le_div_left (Nat.mul_le_mul_right _ hperiod) (Nat.mul_pos hfloor hrate)).trans_lt hfits)

/-- From a floor period whose quotient fits 32 bits on, the step does not increase with the period. -/
theorem stepQuotient_anti_of_floor_fits {period' : Nat} (hrate : 0 < cfg.sampleRate) (hfloor : 0 < floor)
    (hfits : cfg.chipClock * 2 ^ shift / (floor * cfg.sampleRate) < 2 ^ 32) (hperiod : floor ≤ period)
    (hle : period ≤ period') : stepQuotient cfg shift period' ≤ stepQuotient cfg shift period := by
  rw [stepQuotient_of_floor_fits hrate hfloor hfits hperiod,
    stepQuotient_of_floor_fits hrate hfloor hfits (hperiod.trans hle)]
  exact Nat.div_le_div_left (Nat.mul_le_mul_right _ hle) (Nat.mul_pos (by omega) hrate)

/-- From a floor period whose quotient fits 32 bits on, the step is positive up to any period `top` at which the
quotient still is. -/
theorem stepQuotient_pos_of_floor_fits {top : Nat} (hrate : 0 < cfg.sampleRate) (hfloor : 0 < floor)
    (hfits : cfg.chipClock * 2 ^ shift / (floor * cfg.sampleRate) < 2 ^ 32) (hperiod : floor ≤ period)
    (htop : period ≤ top) (hnum : top * cfg.sampleRate ≤ cfg.chipClock * 2 ^ shift) :
    0 < stepQuotient cfg shift period := by
  rw [stepQuotient_of_floor_fits hrate hfloor hfits hperiod]
  exact Nat.div_pos ((Nat.mul_le_mul_right _ htop).trans hnum) (Nat.mul_pos (by omega) hrate)

/-- Half the step of period 1 is the step of period 2 when the former is not truncated: the two floors compose. -/
theorem stepQuotient_one_half (hfits : cfg.chipClock * 2 ^ shift / cfg.sampleRate < 2 ^ 32) :
    stepQuotient cfg shift 1 / 2 = stepQuotient cfg shift 2 := by
  have hhalf : cfg.chipClock * 2 ^ shift / (2 * cfg.sampleRate) = cfg.chipClock * 2 ^ shift / cfg.sampleRate / 2 := by
    rw [Nat.div_div_eq_div_mul, Nat.mul_comm cfg.sampleRate]
  rw [stepQuotient, stepQuotient, Nat.one_mul, hhalf, Nat.mod_eq_of_lt hfits,
    Nat.mod_eq_of_lt ((Nat.div_le_self _ 2).trans_lt hfits)]

/-! ### The three steps -/

/-- A tone period is at most 4095 (R73). -/
theorem tonePeriod_le (hi lo : Byte) : tonePeriod hi lo ≤ 4095 := Nat.le_of_lt_succ (BitVec.isLt _)

/-- A noise period is at most 31 (R73). -/
theorem noisePeriod_le (r : Byte) : noisePeriod r ≤ 31 := Nat.le_of_lt_succ (BitVec.isLt _)

/-- `ToneStep` above the floor (R120). -/
theorem toneStep_toNat_of_floor_lt {hi lo : Byte} (h : 5 < tonePeriod hi lo) :
    (toneStep cfg hi lo).toNat = stepQuotient cfg cfg.toneShift (tonePeriod hi lo) := by
  rw [toneStep_toNat, if_neg (Nat.not_le.mpr h)]

/-- `EnvStep` of the period bytes `(0, 0)` (R122). -/
theorem envStep_zero_toNat : (envStep cfg 0 0).toNat = stepQuotient cfg cfg.envShift 1 / 2 := envStep_toNat cfg 0 0

/-- `EnvStep` of the bytes of a period that is not 0 (R122). -/
theorem envStep_toNat_of_period_ne_zero {hi lo : Byte} (h : envPeriod hi lo ≠ 0) :
    (envStep cfg hi lo).toNat = stepQuotient cfg cfg.envShift (envPeriod hi lo) := by
  rw [envStep_toNat, if_neg h]

/-! ### The obligations -/

/-- Settles O19: above the floor the step is the untruncated quotient, whose divisor grows with the period and is at
most 4095 sample rates. -/
theorem toneStepFallsWithThePeriod : Obligations.ToneStepFallsWithThePeriod := by
  refine fun cfg hi lo hi' lo' => ⟨fun hle => if_pos hle, fun hrate hfits hlt => ⟨fun hle => ?_, fun hnum => ?_⟩⟩
  · rw [BitVec.le_def, toneStep_toNat_of_floor_lt hlt, toneStep_toNat_of_floor_lt (hlt.trans_le hle)]
    exact stepQuotient_anti_of_floor_fits hrate (by decide) hfits hlt hle
  · rw [BitVec.lt_def, toneStep_toNat_of_floor_lt hlt]
    exact stepQuotient_pos_of_floor_fits hrate (by decide) hfits hlt (tonePeriod_le hi lo) hnum

/-- Settles O20: the noise quotient is untruncated from period 3 to 31, and the envelope's period 0 is half of
period 1 by definition. -/
theorem noiseFloorAndEnvelopePeriodZero : Obligations.NoiseFloorAndEnvelopePeriodZero := by
  refine fun cfg => ⟨fun r hlt => if_pos hlt, fun r hrate hge hnum hfits => ?_, ?_, fun hfits => ?_⟩
  · rw [← noisePeriod_eq] at hge
    rw [BitVec.lt_def, noiseStep_toNat, if_neg (Nat.not_lt.mpr hge)]
    exact stepQuotient_pos_of_floor_fits hrate (by decide) hfits hge (noisePeriod_le r) hnum
  · rw [envStep_zero_toNat, envStep_toNat_of_period_ne_zero (by decide)]
    rfl
  · apply BitVec.eq_of_toNat_eq
    rw [envStep_zero_toNat, envStep_toNat_of_period_ne_zero (by decide)]
    exact stepQuotient_one_half hfits

end Sys2Proof.Machine
end

section
/-!
PROOFS. The envelope generator (`42_envelope.md` R134, R135): the advance by numbers at 25 fraction bits, and the
entries past the attack block as an invariant of the samples.
-/

namespace Sys2Proof.Machine

variable {s : State}

/-! ### Samples -/

/-- What every sample keeps holds after any number of samples. -/
theorem afterSamples_keeps {P : State → Prop} (hkeep : ∀ u, P u → P (nextSample u).2) (n : Nat) (h : P s) :
    P (afterSamples n s) := by
  induction n generalizing s with
  | zero => exact h
  | succ n ih => exact ih (hkeep s h)

/-! ### The position by numbers -/

/-- The index has reached an entry where the position has reached the entry's first (R133). -/
theorem le_envIndex_iff (k : Nat) : k ≤ s.envIndex ↔ k * 2 ^ s.cfg.envFracBits ≤ s.epos.toNat := by
  rw [State.envIndex, BitVec.toNat_ushiftRight, Nat.shiftRight_eq_div_pow, Nat.le_div_iff_mul_le (Nat.two_pow_pos _)]

/-- The wrap as arithmetic at 25 fraction bits (R134). -/
theorem envWrapped_toNat {cfg : Cfg} (hfrac : cfg.envFracBits = 25) (e : Phase) :
    (envWrapped cfg e).toNat = if 96 * 2 ^ 25 ≤ e.toNat then e.toNat - 64 * 2 ^ 25 else e.toNat := by
  have hwrap : envWrapped cfg e = if 96 * 2 ^ 25 ≤ e.toNat then e - BitVec.ofNat 32 (64 * 2 ^ 25) else e := by
    rw [envWrapped, hfrac]
    rfl
  rw [hwrap]
  split
  · next hpast => exact BitVec.toNat_sub_of_le (Nat.le_trans (by decide) hpast)
  · rfl

/-! ### Past the attack block -/

/-- At 25 fraction bits and a step of at most `2^30`, the position is in entries 32 to 95 (R135). -/
structure PastAttack (s : State) : Prop where
  frac : s.cfg.envFracBits = 25
  step : s.estep.toNat ≤ 2 ^ 30
  reached : 32 * 2 ^ 25 ≤ s.epos.toNat
  inside : s.epos.toNat < 96 * 2 ^ 25

/-- The indices of the positions past the attack block (R133). -/
theorem PastAttack.envIndex_mem (h : PastAttack s) : 32 ≤ s.envIndex ∧ s.envIndex ≤ 95 := by
  have hreached := h.reached
  have hinside := h.inside
  rw [← h.frac] at hreached hinside
  exact ⟨(le_envIndex_iff 32).mpr hreached, Nat.le_of_lt_succ (envIndex_lt s hinside)⟩

/-- A sample stays past the attack block (R135): the step bound keeps the sum below `2^32`, and a sum past the last
entry is taken back by 64 of the 96 entries, to entry 32 at the lowest. -/
theorem nextSample_pastAttack (h : PastAttack s) : PastAttack (nextSample s).2 := by
  obtain ⟨hfrac, hstep, hreached, hinside⟩ := h
  have hsum : (s.epos + s.estep).toNat = s.epos.toNat + s.estep.toNat :=
    BitVec.toNat_add_of_lt (by omega)
  have hepos := congrArg BitVec.toNat (nextSample_positions s).2
  rw [envWrapped_toNat hfrac, hsum] at hepos
  refine ⟨?_, ?_, ?_, ?_⟩
  · rwa [nextSample_cfg]
  · rwa [nextSample_estep]
  · rw [hepos]; split <;> omega
  · rw [hepos]; split <;> omega

/-! ### The obligation -/

/-- Settles O23: a position past the attack block is one of `PastAttack`, which every sample keeps. -/
theorem attackBlockNeverRepeats : Obligations.AttackBlockNeverRepeats := by
  intro s n hfrac hstep hinside hindex
  have hreached : 32 * 2 ^ 25 ≤ s.epos.toNat := hfrac ▸ (le_envIndex_iff 32).mp hindex
  have hpast : PastAttack s := ⟨hfrac, hstep, hreached, hinside⟩
  exact (afterSamples_keeps (fun _ => nextSample_pastAttack) n hpast).envIndex_mem

end Sys2Proof.Machine
end

section
/-!
PROOFS. The DAC table (`44_dac_table.md` R151 to R157): the measured entry as a rational blend, the linear entry as a
mean, and the normalised entry as a number a sample holds.
-/

namespace Sys2Proof.Machine

/-! ### The measured strategy -/

/-- The weights of R152 are the model's fifths, each over 5. -/
theorem rationalTerms_eq (x : Level) : rationalTerms x = (axisTerms x).map fun t => (t.1, (t.2 : ℚ) / 5) := by
  unfold rationalTerms axisTerms
  split <;> simp

/-- The weights of one axis are five fifths (R152). -/
theorem axisTerms_weights (x : Level) : ((axisTerms x).map Prod.snd).sum = 5 := by
  unfold axisTerms
  split <;> rfl

/-- The blend along one axis is convex: five times a bound of the blended values bounds it. -/
theorem axisTerms_sum_le (x : Level) {f : BitVec 4 → Nat} {bound : Nat} (hf : ∀ i, f i ≤ bound) :
    ((axisTerms x).map fun t => t.2 * f t.1).sum ≤ 5 * bound :=
  calc ((axisTerms x).map fun t => t.2 * f t.1).sum
      ≤ ((axisTerms x).map fun t => t.2 * bound).sum :=
        List.sum_le_sum fun t _ => Nat.mul_le_mul_left t.2 (hf t.1)
    _ = 5 * bound := by rw [List.sum_map_mul_right, axisTerms_weights]

/-- The blend along one axis of a level whose terms all name one measured index. -/
theorem axisTerms_sum_of_point {x : Level} {k : BitVec 4} (hx : ∀ t ∈ axisTerms x, t.1 = k)
    {g : BitVec 4 × Nat → Nat} {value : Nat} (hg : ∀ w, g (k, w) = w * value) :
    ((axisTerms x).map g).sum = 5 * value := by
  have hterm : ∀ t ∈ axisTerms x, g t = t.2 * value := fun t ht => by rw [← hg, ← hx t ht]
  rw [List.map_congr_left hterm, List.sum_map_mul_right, axisTerms_weights]

/-- A measured point is a 16-bit number (R152). -/
theorem measuredPoint_le (m : MeasuredDac) (c b a : BitVec 4) : measuredPoint m c b a ≤ 65535 :=
  Nat.le_of_lt_succ (BitVec.isLt _)

/-- The weighted sum, one axis after the other (R152: "expanded ... one axis at a time"). -/
theorem blendSum_eq_nested (m : MeasuredDac) (c b a : Level) :
    blendSum m c b a = ((axisTerms c).map fun tc => tc.2 * ((axisTerms b).map fun tb =>
      tb.2 * ((axisTerms a).map fun ta => ta.2 * measuredPoint m tc.1 tb.1 ta.1).sum).sum).sum := by
  simp only [blendSum, mul_assoc, List.sum_map_mul_left]

/-- The weighted sum is at most 125 times the largest 16-bit number. -/
theorem blendSum_le (m : MeasuredDac) (c b a : Level) : blendSum m c b a ≤ 125 * 65535 := by
  rw [blendSum_eq_nested]
  exact axisTerms_sum_le c fun ic => axisTerms_sum_le b fun ib => axisTerms_sum_le a fun ia =>
    measuredPoint_le m ic ib ia

/-- The clamp of R152 never acts. -/
theorem rawEntry_measured (m : MeasuredDac) (c b a : Level) :
    rawEntry (.measured m) c b a = blendSum m c b a / 125 :=
  Nat.min_eq_left (Nat.div_le_of_le_mul (blendSum_le m c b a))

/-- Where every term of a level names one measured index, the entry at that level of all voices is the measured point
itself (R152). -/
theorem rawEntry_measured_of_point (m : MeasuredDac) {x : Level} {k : BitVec 4} (hx : ∀ t ∈ axisTerms x, t.1 = k) :
    rawEntry (.measured m) x x x = measuredPoint m k k k := by
  have hsum : blendSum m x x x = 5 * (5 * (5 * measuredPoint m k k k)) := by
    rw [blendSum_eq_nested]
    exact axisTerms_sum_of_point hx fun wc => congrArg (wc * ·) <|
      axisTerms_sum_of_point hx fun wb => congrArg (wb * ·) <|
        axisTerms_sum_of_point hx fun _ => rfl
  rw [rawEntry_measured, hsum]
  omega

/-- The rational sum is the model's sum over the common denominator of its weights (R152). -/
theorem rationalBlend_eq (m : MeasuredDac) (c b a : Level) :
    rationalBlend m c b a = (blendSum m c b a : ℚ) / 125 := by
  have hweight : ∀ wc wb wa p : Nat,
      (wc / 5 : ℚ) * (wb / 5) * (wa / 5) * p = ((wc * wb * wa * p : Nat) : ℚ) * 125⁻¹ := by
    intro wc wb wa p
    push_cast
    ring
  simp only [rationalBlend, rationalTerms_eq, blendSum, List.map_map, Function.comp_def, hweight,
    List.sum_map_mul_right, Nat.cast_list_sum, div_eq_mul_inv (_ : ℚ) 125]

/-- The measured entry is the floor of the rational sum (R152). -/
theorem rawEntry_measured_eq_floor (m : MeasuredDac) (c b a : Level) :
    (rawEntry (.measured m) c b a : Int) = ⌊rationalBlend m c b a⌋ := by
  rw [rationalBlend_eq, rawEntry_measured]
  exact (Rat.floor_natCast_div_natCast _ 125).symm

/-! ### The linear strategy -/

/-- Exchanging the levels of two voices leaves the mean (R153). -/
theorem rawEntry_linear_comm (d : VoiceDac) (c b a : Level) :
    rawEntry (.linear d) c b a = rawEntry (.linear d) c a b ∧
    rawEntry (.linear d) c b a = rawEntry (.linear d) b c a := by
  simp only [rawEntry]
  omega

/-- The linear entry does not fall when no voice's table value does (R157). -/
theorem rawAt_linear_mono {d : VoiceDac} {i j : Word3}
    (h : ∀ u : Fin 3, voiceLevel d (levelOf u i) ≤ voiceLevel d (levelOf u j)) :
    rawAt (.linear d) i ≤ rawAt (.linear d) j :=
  Nat.div_le_div_right (Nat.add_le_add (Nat.add_le_add (h 0) (h 1)) (h 2))

/-! ### Normalisation -/

variable {cfg : Cfg}

/-- The scaled entry of R155, before centring. -/
def scaled (cfg : Cfg) (mx t : Nat) : Nat := if mx = 0 then 0 else t * cfg.outputLevel / mx

/-- Normalisation is the scaling, less half the ceiling when centring (R155). -/
theorem normalise_eq (mx t : Nat) :
    normalise cfg mx t =
      (scaled cfg mx t : Int) - (if cfg.doCenter then (((cfg.outputLevel + 1) / 2 : Nat) : Int) else 0) := by
  simp only [normalise, scaled, centerOf, Nat.shiftRight_one]
  split <;> split <;> simp

/-- An entry up to the maximum scales to at most the ceiling (R155). -/
theorem scaled_le {mx t : Nat} (h : t ≤ mx) : scaled cfg mx t ≤ cfg.outputLevel := by
  unfold scaled
  split
  · exact Nat.zero_le _
  · exact Nat.div_le_of_le_mul (Nat.mul_le_mul_right _ h)

/-- Scaling keeps the order of the entries (R157). -/
theorem scaled_mono (mx : Nat) {t t' : Nat} (h : t ≤ t') : scaled cfg mx t ≤ scaled cfg mx t' := by
  unfold scaled
  split
  · exact Nat.le_refl 0
  · exact Nat.div_le_div_right (Nat.mul_le_mul_right _ h)

/-- The maximum itself scales to the ceiling (R155). -/
theorem scaled_self {mx : Nat} (h : mx ≠ 0) : scaled cfg mx mx = cfg.outputLevel := by
  rw [scaled, if_neg h, Nat.mul_div_cancel_left _ (Nat.pos_of_ne_zero h)]

/-- For an accepted configuration a normalised entry is one a sample holds (R155). -/
theorem normalise_mem_range {mx t : Nat} (hcfg : CfgNumbersOk cfg) (h : t ≤ mx) :
    -32768 ≤ normalise cfg mx t ∧ normalise cfg mx t ≤ 32767 := by
  obtain ⟨-, -, -, -, -, htop, hplain, -⟩ := hcfg
  have hle := scaled_le (cfg := cfg) h
  rw [normalise_eq]
  split
  · omega
  · next hcenter =>
    have := hplain (Bool.eq_false_of_not_eq_true hcenter)
    omega

/-- For an accepted configuration an entry of the table is the normalised value exactly (R155, R156). -/
theorem dacTable_toInt (hcfg : CfgNumbersOk cfg) (src : DacSource) (i : Word3) :
    ((dacTable src cfg)[i.toNat]'i.isLt).toInt = normalise cfg (rawMax src) (rawAt src i) := by
  obtain ⟨hlow, hhigh⟩ := normalise_mem_range hcfg ((rawMax_spec src).1 i)
  rw [dacTable_getElem, normAt]
  exact BitVec.toInt_ofInt_eq_self (by decide) hlow (Int.lt_add_one_of_le hhigh)

/-! ### The obligations -/

/-- Settles O27: the maximum is `rawMax`, and no normalised entry is truncated. -/
theorem dacTableIsNormalised : Obligations.DacTableIsNormalised := by
  refine fun cfg src hcfg => ⟨rawMax src, fun c b a i hi => ?_, (rawMax_spec src).1, (rawMax_spec src).2,
    fun i => ⟨?_, fun hmax hne hplain => ?_⟩⟩
  · rw [← indexOf_toNat] at hi
    rw [BitVec.eq_of_toNat_eq hi, rawAt_indexOf]
  · rw [dacTable_toInt hcfg, normalise_eq, scaled, apply_ite Nat.cast, Nat.cast_zero]
  · rw [dacTable_toInt hcfg, normalise_eq, hmax, scaled_self hne, hplain]
    simp

/-- Settles O28: the mean is symmetric, and the mean, the scaling and the centring each keep the order. -/
theorem linearTableIsSymmetricAndMonotone : Obligations.LinearTableIsSymmetricAndMonotone := by
  refine fun d c b a => ⟨?_, (rawEntry_linear_comm d c b a).1, (rawEntry_linear_comm d c b a).2,
    fun hrise cfg hcfg v i j hv hsame => ?_⟩
  · simp only [rawEntry, voiceLevel]
    omega
  · have hlevels : ∀ u : Fin 3, voiceLevel d (levelOf u i) ≤ voiceLevel d (levelOf u j) := by
      intro u
      by_cases hu : u = v
      · exact hrise _ _ (hu ▸ hv)
      · rw [hsame u hu]
    rw [dacTable_toInt hcfg, dacTable_toInt hcfg, normalise_eq, normalise_eq]
    exact Int.sub_le_sub_right (Int.ofNat_le.mpr (scaled_mono _ (rawAt_linear_mono hlevels))) _

/-- Settles O29: the model's sum over 125 is the rational sum, it is at most 65535 because the weights of an axis sum
to 1, and every term of a corner's sum is the one measured point. -/
theorem measuredTableIsTheRationalBlend : Obligations.MeasuredTableIsTheRationalBlend := by
  refine fun m c b a => ⟨?_, rawEntry_measured_eq_floor m c b a,
    rawEntry_measured_of_point m (by decide), rawEntry_measured_of_point m (by decide)⟩
  have hle : rawEntry (.measured m) c b a ≤ 65535 := Nat.min_le_right _ _
  rw [← rawEntry_measured_eq_floor]
  omega

end Sys2Proof.Machine
end

section
/-!
PROOFS. The output stage (`46_dc_lowpass.md` R190 to R193): the DC estimate as a mean of samples, and the filter output
as a sum of three floors.
-/

namespace Sys2Proof.Machine

/-! ### Sums of samples -/

/-- A sample as a number. -/
theorem sample_mem_range (x : Sample) : -32768 ≤ x.toInt ∧ x.toInt ≤ 32767 := ⟨x.le_toInt, x.toInt_le⟩

/-- A sum of samples lies between the same multiples of the least and the greatest sample. -/
theorem sampleSum_mem_range (l : List Sample) :
    -32768 * (l.length : Int) ≤ sampleSum l ∧ sampleSum l ≤ 32767 * l.length := by
  induction l with
  | nil => simp [sampleSum]
  | cons x xs ih =>
    have hx := sample_mem_range x
    simp only [sampleSum, List.map_cons, List.sum_cons, List.length_cons] at ih ⊢
    omega

variable (s : State)

/-- The truncated mean of a history is one a sample holds (R190). -/
theorem dcEstimate_mem_range (h : DcWf s) : -32768 ≤ dcEstimate s ∧ dcEstimate s ≤ 32767 := by
  have hpos : (0 : Int) < s.cfg.dcN := Int.natCast_pos.mpr (Nat.zero_lt_of_lt h.index)
  obtain ⟨hlow, hhigh⟩ := sampleSum_mem_range s.dcHist
  rw [← h.sum, h.length] at hlow hhigh
  exact ⟨Int.le_tdiv_of_mul_le hpos hlow,
    (Int.tdiv_le_tdiv hpos hhigh).trans_eq (Int.mul_tdiv_cancel _ hpos.ne')⟩

/-! ### The filter -/

/-- A shift by an integer that is not negative is a floor, as one by a natural number is. -/
theorem shiftRight_intCast_eq_div_pow (m : Int) (n : Nat) : m >>> (n : Int) = m / (2 ^ n : Nat) := by
  rw [Int.shiftRight_natCast_right, Int.shiftRight_eq_div_pow]

variable (x0 : Sample)

/-- The shifts of R191 are floors. The literals of the definition's shifts are integers where it is read with Mathlib
imported and natural numbers where it is not; both readings are rewritten. -/
theorem filterOutput_eq : filterOutput x0 s = s.lp2.toInt / 4 + s.lp1.toInt / 2 + x0.toInt / 4 := by
  have hquarter (m : Int) : m >>> (2 : Int) = m / 4 := shiftRight_intCast_eq_div_pow m 2
  have hhalf (m : Int) : m >>> (1 : Int) = m / 2 := shiftRight_intCast_eq_div_pow m 1
  norm_num only [filterOutput, Int.shiftRight_eq_div_pow, hquarter, hhalf]

/-- The filter output fits a sample (R193). -/
theorem filterOutput_mem_range : -32768 ≤ filterOutput x0 s ∧ filterOutput x0 s ≤ 32765 := by
  have h2 := sample_mem_range s.lp2
  have h1 := sample_mem_range s.lp1
  have h0 := sample_mem_range x0
  rw [filterOutput_eq]
  omega

/-- No bit of the filter output is lost in the sample (R193). -/
theorem wrap16_filterOutput_toInt : (wrap16 (filterOutput x0 s)).toInt = filterOutput x0 s := by
  obtain ⟨hlow, hhigh⟩ := filterOutput_mem_range s x0
  exact BitVec.toInt_ofInt_eq_self (by decide) hlow (hhigh.trans_lt (by decide))

/-! ### The obligation -/

variable {s}

/-- With the filter on, the output stage filters and updates the history. -/
theorem postProcess_on (raw : Sample) (h : s.cfg.lpfEnable = true) :
    postProcess raw s =
      (wrap16 (filterOutput (filterInput raw s) s), dcUpdate raw { s with lp2 := s.lp1, lp1 := filterInput raw s }) :=
  if_pos h

/-- Settles O33: the estimate is a mean of samples, and the three floors sum to a number a sample holds. -/
theorem filterOutputIsExact : Obligations.FilterOutputIsExact := by
  refine fun raw s => ⟨postProcess_off s raw, fun hdc hon => ?_⟩
  obtain ⟨hlow, hhigh⟩ := dcEstimate_mem_range s hdc
  obtain ⟨houtLow, houtHigh⟩ := filterOutput_mem_range s (filterInput raw s)
  have hexact : (postProcess raw s).1.toInt = filterOutput (filterInput raw s) s := by
    rw [postProcess_on raw hon, wrap16_filterOutput_toInt]
  refine ⟨hlow, hhigh, hexact.trans (filterOutput_eq s _), houtLow.trans_eq hexact.symm,
    hexact.trans_le houtHigh, ?_, ?_, ?_, ?_, postProcess_dcWf s raw hdc, postProcess_frame s raw⟩ <;>
  · rw [postProcess_on raw hon]
    rfl

end Sys2Proof.Machine
end

section
/-!
PROOFS. The frame scheduler and the consumer (`47_scheduler_host.md` R200 to R206): the slots that the samples fill,
the cycles that samples are paid for with, and what the operations of the host hand out.
-/

namespace Sys2Proof.Machine

/-! ### The slots a call fills -/

variable {cap : Nat}

/-- Filling leaves every slot that no sample is due in. -/
theorem fillRing_getElem?_of_ne {i j : Nat} {xs : List Sample} (r : List StereoPair)
    (h : ∀ k < xs.length, i ≠ (j + k) % cap) : (fillRing cap j xs r)[i]? = r[i]? := by
  induction xs generalizing j r with
  | nil => rfl
  | cons x xs ih =>
    have hfirst : i ≠ j % cap := h 0 (Nat.zero_lt_succ _)
    have hrest : ∀ k < xs.length, i ≠ (j + 1 + k) % cap := fun k hk => by
      rw [Nat.add_assoc, Nat.add_comm 1]
      exact h (k + 1) (Nat.succ_lt_succ hk)
    rw [fillRing, ih _ hrest, List.getElem?_set_ne hfirst.symm]

/-- Filling puts sample `k` in the `k`-th slot from the first on, as long as no slot is filled twice. -/
theorem fillRing_getElem?_slot {j k : Nat} {xs : List Sample} {x : Sample} {r : List StereoPair}
    (hlen : r.length = cap) (hroom : xs.length ≤ cap) (hx : xs[k]? = some x) :
    (fillRing cap j xs r)[(j + k) % cap]? = some (x, x) := by
  induction xs generalizing j k r with
  | nil => simp at hx
  | cons y ys ih =>
    rw [List.length_cons] at hroom
    cases k with
    | zero =>
      cases hx
      have hlater : ∀ k < ys.length, (j + 0) % cap ≠ (j + 1 + k) % cap := fun k hk => by
        rw [Nat.add_assoc]
        exact (ringSlot_ne (by omega) (by omega)).symm
      rw [fillRing, fillRing_getElem?_of_ne _ hlater]
      exact List.getElem?_set_self (hlen.symm ▸ Nat.mod_lt j (by omega))
    | succ k =>
      rw [fillRing, Nat.add_comm k, ← Nat.add_assoc]
      exact ih (by rw [List.length_set, hlen]) (by omega) hx

/-! ### Cycles and samples -/

variable {cfg : Cfg} (c : Nat)

theorem samplesPerFrame_pos (h : CfgNumbersOk cfg) : 0 < samplesPerFrame cfg := by
  obtain ⟨-, hfps, hle, -⟩ := h
  exact Nat.div_pos hle hfps

theorem cyclesPerFrame_pos (h : CfgNumbersOk cfg) : 0 < cfg.cyclesPerFrame := by
  obtain ⟨-, -, -, hpos, -⟩ := h
  exact hpos

/-- The samples due take no more than the cycles there are. -/
theorem samplesDue_mul_le : samplesDue cfg c * cfg.cyclesPerFrame ≤ c * samplesPerFrame cfg :=
  (Nat.mul_le_mul_right _ (Nat.min_le_left ..)).trans (Nat.div_mul_le_self ..)

/-- The cycles paid for the samples due are among those there are (R201). -/
theorem cyclesPaid_le : samplesDue cfg c * cfg.cyclesPerFrame / samplesPerFrame cfg ≤ c :=
  Nat.div_le_of_le_mul ((samplesDue_mul_le c).trans_eq (Nat.mul_comm ..))

/-- What the frame clamp does not limit leaves less than two samples' worth of cycles: one is lost to the floor of the
count, one to the floor of the cycles paid (R201). -/
theorem cyclesLeft_lt (hcfg : CfgNumbersOk cfg)
    (hclamp : c * samplesPerFrame cfg / cfg.cyclesPerFrame ≤ samplesPerFrame cfg) :
    cyclesLeft cfg c (samplesDue cfg c) < cfg.cyclesPerFrame / samplesPerFrame cfg + 2 := by
  have hpaid := cyclesPaid_le (cfg := cfg) c
  have hS := samplesPerFrame_pos hcfg
  have hP := cyclesPerFrame_pos hcfg
  simp only [cyclesLeft, samplesDue, Nat.min_eq_left hclamp] at hpaid ⊢
  generalize cfg.cyclesPerFrame = P at *
  generalize samplesPerFrame cfg = S at *
  have hbound : c * S < (c * S / P * P / S + P / S + 2) * S :=
    calc c * S < c * S / P * P + P := Nat.lt_div_mul_add hP
      _ < (c * S / P * P / S * S + S) + (P / S * S + S) :=
        Nat.add_lt_add (Nat.lt_div_mul_add hS) (Nat.lt_div_mul_add hS)
      _ = (c * S / P * P / S + P / S + 2) * S := by ring
  have := Nat.lt_of_mul_lt_mul_right hbound
  omega

/-- A frame's cycles are a frame's samples (R201). -/
theorem samplesDue_frame (hcfg : CfgNumbersOk cfg) : samplesDue cfg cfg.cyclesPerFrame = samplesPerFrame cfg := by
  rw [samplesDue, Nat.mul_div_cancel_left _ (cyclesPerFrame_pos hcfg), Nat.min_self]

/-- A frame's samples are paid for with a frame's cycles (R201). -/
theorem cyclesLeft_frame (hcfg : CfgNumbersOk cfg) :
    cyclesLeft cfg cfg.cyclesPerFrame (samplesPerFrame cfg) = 0 := by
  rw [cyclesLeft, Nat.mul_div_cancel_left _ (samplesPerFrame_pos hcfg), Nat.sub_self]

/-! ### Runs -/

variable {s t : State}

/-- An operation that completes hands its state to the rest of the run. -/
theorem execAll_cons {i : Instr} (is : List Instr) (h : exec i s = .next t) :
    execAll (i :: is) s = execAll is t := by
  simp only [execAll, h]

@[simp] theorem advanceEffect_cfg : (advanceEffect c s).cfg = s.cfg := afterSamples_cfg s _

theorem advanceEffect_cyc :
    (advanceEffect c s).cyc = cyclesLeft s.cfg (s.cyc + c) (samplesDue s.cfg (s.cyc + c)) := rfl

/-- Over a run of `ADVANCE`s the samples counted are worth at least the cycles used, and less than one cycle a call
more: each call drops the fraction of a cycle (R201). -/
theorem cyclesUsed_bounds {cs : List Nat} (hcfg : CfgNumbersOk s.cfg) (h : execAll (cs.map .advance) s = .next t) :
    ∃ used, used + t.cyc = s.cyc + cs.sum ∧
      used * samplesPerFrame s.cfg ≤ dueOver s.cfg s.cyc cs * s.cfg.cyclesPerFrame ∧
      dueOver s.cfg s.cyc cs * s.cfg.cyclesPerFrame + cs.length ≤ (used + cs.length) * samplesPerFrame s.cfg := by
  induction cs generalizing s with
  | nil =>
    cases h
    exact ⟨0, by simp [dueOver]⟩
  | cons c cs ih =>
    rw [List.map_cons, execAll_cons _ (exec_advance s c)] at h
    obtain ⟨used, hsum, hlow, hhigh⟩ := ih ((advanceEffect_cfg (s := s) c).symm ▸ hcfg) h
    have hpaid := cyclesPaid_le (cfg := s.cfg) (s.cyc + c)
    have hfloor := Nat.div_mul_le_self (samplesDue s.cfg (s.cyc + c) * s.cfg.cyclesPerFrame) (samplesPerFrame s.cfg)
    have hceil := Nat.lt_div_mul_add (a := samplesDue s.cfg (s.cyc + c) * s.cfg.cyclesPerFrame)
      (samplesPerFrame_pos hcfg)
    rw [advanceEffect_cyc, cyclesLeft] at hsum
    rw [advanceEffect_cfg, advanceEffect_cyc] at hlow hhigh
    refine ⟨samplesDue s.cfg (s.cyc + c) * s.cfg.cyclesPerFrame / samplesPerFrame s.cfg + used, ?_, ?_, ?_⟩
    · rw [List.sum_cons]
      omega
    · rw [dueOver, Nat.add_mul, Nat.add_mul]
      exact Nat.add_le_add hfloor hlow
    · rw [dueOver, List.length_cons]
      linarith

/-! ### `CONSUME` beside a register write -/

/-- A register write reads and writes nothing that `CONSUME` writes, and the other way round (R100 to R117, R203). -/
theorem writeEffect_consumeEffect (r : BitVec 4) (d : Byte) (k : Nat) :
    writeEffect r d (consumeEffect k s) = consumeEffect k (writeEffect r d s) := by
  unfold writeEffect
  split <;> rfl

@[simp] theorem writeEffect_pending (r : BitVec 4) (d : Byte) : (writeEffect r d s).pending = s.pending := by
  rw [writeEffect_frame]

/-! ### The obligations -/

/-- Settles O35: the state `ADVANCE` leaves is `advanceEffect`, whose ring is filled with the samples from `wcur` on. -/
theorem advanceGeneratesAFrame : Obligations.AdvanceGeneratesAFrame := by
  intro c s
  have hcount := samplesFrom_length s (samplesGenerated c s)
  refine ⟨advanceEffect c s, exec_advance s c, rfl, rfl, rfl, rfl, fillRing_length .., fun hlen hroom => ⟨?_, ?_⟩,
    hcount, rfl⟩
  · exact fun i x hx => fillRing_getElem?_slot hlen (hcount.trans_le hroom) hx
  · exact fun i hi => fillRing_getElem?_of_ne s.ring fun k hk => hi k (hk.trans_eq hcount)

/-- Settles O36: the three bounds are those on the cycles that the samples due are paid for with. -/
theorem cycleCarryIsBounded : Obligations.CycleCarryIsBounded := by
  intro c s t hcfg h
  cases (exec_advance s c).symm.trans h
  refine ⟨cyclesPaid_le _, cyclesLeft_lt _ hcfg, fun hzero hframe => ?_⟩
  have hsum : s.cyc + c = s.cfg.cyclesPerFrame := by rw [hzero, hframe, Nat.zero_add]
  have hdue : samplesDue s.cfg (s.cyc + c) = samplesPerFrame s.cfg := by rw [hsum, samplesDue_frame hcfg]
  exact ⟨hdue, by rw [advanceEffect_cyc, hdue, hsum, cyclesLeft_frame hcfg]⟩

/-- Settles O37: the bounds on the cycles used over the run, strict because the run makes a call. -/
theorem sampleCountTracksTheCycles : Obligations.SampleCountTracksTheCycles := by
  intro cs s t hcfg hzero hne h
  obtain ⟨used, hsum, hlow, hhigh⟩ := cyclesUsed_bounds hcfg h
  rw [hzero] at hsum hlow hhigh
  have hused : cs.sum - t.cyc = used := by omega
  have hcalls := List.length_pos_iff.mpr hne
  rw [hused]
  exact ⟨by omega, hlow, by omega⟩

/-- Settles O38: `CONSUME` is refused above `pending` and leaves `consumeEffect` otherwise. -/
theorem consumeTakesTheOldestPairs : Obligations.ConsumeTakesTheOldestPairs := by
  refine fun k s => ⟨fun hk => if_pos hk, fun hk => ?_⟩
  exact ⟨consumeEffect k s, s.ringPairs k, exec_consume s hk, ringPairs_length s k,
    fun j hj => ringPairs_getElem? s k j hj, rfl⟩

/-- Settles O59: both orders complete, since a write keeps `pending`, and their effects commute. -/
theorem consumeCommutesWithWrites : Obligations.ConsumeCommutesWithWrites := by
  intro k r d s hk
  have hkept : k ≤ (writeEffect r d s).pending := by rwa [writeEffect_pending]
  refine ⟨writeEffect r d (consumeEffect k s), ?_, ?_⟩
  · rw [execAll_cons _ (exec_consume s hk), execAll_cons _ (exec_write _ r d), execAll]
  · rw [execAll_cons _ (exec_write s r d), execAll_cons _ (exec_consume _ hkept), execAll, writeEffect_consumeEffect]

/-- Settles O40: the arm of `ACK_SHAPE` clears the flag and hands out the one it found. -/
theorem acknowledgeReturnsAndClearsTheFlag : Obligations.AcknowledgeReturnsAndClearsTheFlag := fun _ => rfl

/-- Settles O41: the record is `snapshotOf`, whose entries are the fields' numbers, one by one in the vectors. -/
theorem exportCopiesTheGenerators : Obligations.ExportCopiesTheGenerators := by
  refine fun s => ⟨snapshotOf s, rfl, fun i => ?_, fun v => ⟨?_, ?_⟩, rfl, rfl, rfl, rfl, rfl, rfl, rfl, rfl, rfl⟩ <;>
    exact Vector.getElem_map ..

end Sys2Proof.Machine
end

section
/-!
PROOFS. Encoding (`30_encoding.md` R70 to R75): the fields of a word of format `H`, decode and encode as inverses, and
the rows of the opcode table that match a word.
-/

namespace Sys2Proof.Machine

/-! ### The fields of a word -/

theorem wordH_class (op : BitVec 4) (low : BitVec 12) : (wordH op low).extractLsb' 12 4 = op :=
  BitVec.extractLsb'_append_eq_left

theorem wordH_low (op : BitVec 4) (low : BitVec 12) : (wordH op low).extractLsb' 0 12 = low :=
  BitVec.extractLsb'_append_eq_right

/-- A word is its class and its low bits (R70). -/
theorem wordH_fields (w : CmdWord) : wordH (w.extractLsb' 12 4) (w.extractLsb' 0 12) = w := by
  rw [wordH, BitVec.extractLsb'_append_extractLsb'_eq_extractLsb' (by rfl)]
  exact BitVec.extractLsb'_eq_self

/-- Format `W` is format `H` of class 0. -/
theorem wordW_eq_wordH (r : BitVec 4) (d : Byte) : wordW r d = wordH 0 (r ++ d) := BitVec.append_assoc

/-- A word of class 0 is its register index and its data byte (R70). -/
theorem wordW_fields {w : CmdWord} (h : w.extractLsb' 12 4 = 0) :
    wordW (w.extractLsb' 8 4) (w.extractLsb' 0 8) = w := by
  have hlow : w.extractLsb' 8 4 ++ w.extractLsb' 0 8 = w.extractLsb' 0 12 :=
    BitVec.extractLsb'_append_extractLsb'_eq_extractLsb' (by rfl)
  rw [wordW_eq_wordH, hlow, ← h, wordH_fields]

/-- Every word has format `W` or is one of format `H` whose class is not 0 (R70). -/
theorem wordW_or_wordH (w : CmdWord) : (∃ r d, w = wordW r d) ∨ ∃ op low, op ≠ 0 ∧ w = wordH op low := by
  by_cases h : w.extractLsb' 12 4 = 0
  · exact .inl ⟨_, _, (wordW_fields h).symm⟩
  · exact .inr ⟨_, _, h, (wordH_fields w).symm⟩

/-! ### Decode and encode -/

/-- A `WRITE` is well-formed, and format `W` stands for it (R70). -/
theorem encode_write (r : BitVec 4) (d : Byte) :
    (Instr.write r d).wellFormed = true ∧ encode (.write r d) = some (.ofWord (wordW r d)) := by
  obtain ⟨⟨n, hn⟩⟩ := r
  interval_cases n <;> exact ⟨rfl, rfl⟩

/-- Format `H` is read back by its class, and by its low bits where the class has an operation (R75). -/
theorem encode_decode_wordH {op : BitVec 4} (low : BitVec 12) (hop : op ≠ 0) :
    (decode (.ofWord (wordH op low))).wellFormed = true ∧
      encode (decode (.ofWord (wordH op low))) = some (.ofWord (wordH op low)) := by
  simp only [decode, Command.ofWord, wordH_class, wordH_low]
  by_cases hlow : low = 0
  · subst hlow
    revert op
    decide
  · simp only [if_neg hlow]
    obtain ⟨⟨n, hn⟩⟩ := op
    interval_cases n
    · exact absurd rfl hop
    iterate 6 exact ⟨decide_eq_true hlow, rfl⟩
    all_goals exact ⟨rfl, rfl⟩

/-- Settles O2: the command's word gives the constructor back by its fields, and the side operand travels beside it. -/
theorem decodeOfEncodeIsTheOperation : Obligations.DecodeOfEncodeIsTheOperation := by
  intro i
  cases i with
  | writeR0 | writeR1 | writeR2 | writeR3 | writeR4 | writeR5 | writeR6 | writeR7 | writeR8 | writeR9 | writeR10
  | writeR11 | writeR12 | writeR13 | writeR14 | writeR15 =>
    exact ⟨fun _ _ => ⟨_, rfl, (decode_wordW rfl).trans rfl⟩, nofun⟩
  | nextSample | create => exact ⟨nofun, fun _ => rfl⟩
  | reset | ackShape | snapExport | advance | consume | snapImport
  | reserved7 | reserved8 | reserved9 | reservedA | reservedB | reservedC | reservedD | reservedE | reservedF =>
    exact ⟨fun _ _ => ⟨_, rfl, by simp only [decode, Command.ofWord, wordH_class, wordH_low]; rfl⟩, nofun⟩
  | reservedOperand1 | reservedOperand2 | reservedOperand3 | reservedOperand4 | reservedOperand5 | reservedOperand6 =>
    refine ⟨fun hwf _ => ⟨_, rfl, ?_⟩, nofun⟩
    simp only [decode, Command.ofWord, wordH_class, wordH_low]
    exact if_neg (of_decide_eq_true hwf)

/-- Settles O3, by the format of the word. -/
theorem encodeOfDecodeIsTheWord : Obligations.EncodeOfDecodeIsTheWord := by
  intro w
  rcases wordW_or_wordH w with ⟨r, d, rfl⟩ | ⟨op, low, hop, rfl⟩
  · rw [decode_wordW rfl]
    exact encode_write r d
  · exact encode_decode_wordH low hop

/-! ### The rows of the opcode table -/

/-- The rows are of three kinds: an index of class 0, a whole word of another class with low bits 0, and a class. -/
theorem opcodeRow_kinds : ∀ row ∈ opcodeRows,
    (row.mask = 0xFF00 ∧ row.pattern.extractLsb' 12 4 = 0) ∨
    (row.mask = 0xFFFF ∧ row.pattern.extractLsb' 12 4 ≠ 0 ∧ row.pattern.extractLsb' 0 12 = 0) ∨
    row.mask = 0xF000 := by
  decide

/-- Words that every row treats alike are decoded by the same rows. -/
theorem decodingRows_congr {w w' : CmdWord}
    (h : ∀ row ∈ opcodeRows, w &&& row.mask = row.pattern ↔ w' &&& row.mask = row.pattern) :
    decodingRows w = decodingRows w' := by
  have hmatch : matchingRows w = matchingRows w' := List.filter_congr fun row hrow => by simp [h row hrow]
  rw [decodingRows, hmatch, decodingRows]

theorem class_and (w m : CmdWord) : (w &&& m).extractLsb' 12 4 = w.extractLsb' 12 4 &&& m.extractLsb' 12 4 :=
  BitVec.extractLsb'_and ..

/-- A mask of ones above zeros keeps the upper part of a word. -/
theorem append_and_upper {m n : Nat} (x : BitVec m) (y : BitVec n) :
    (x ++ y) &&& (BitVec.allOnes m ++ 0#n) = x ++ 0#n := by
  rw [BitVec.and_append, BitVec.and_allOnes, BitVec.and_zero]

theorem wordW_and_index (r : BitVec 4) (d : Byte) : wordW r d &&& 0xFF00 = wordW r 0 := append_and_upper (0#4 ++ r) d

theorem wordH_and_class (op : BitVec 4) (low : BitVec 12) : wordH op low &&& 0xF000 = wordH op 0 :=
  append_and_upper op low

/-- No row looks at the data byte of format `W`. -/
theorem decodingRows_wordW (r : BitVec 4) (d : Byte) : decodingRows (wordW r d) = decodingRows (wordW r 0) := by
  refine decodingRows_congr fun row hrow => ?_
  rcases opcodeRow_kinds row hrow with ⟨hmask, -⟩ | ⟨hmask, hne, -⟩ | hmask <;> rw [hmask]
  · rw [wordW_and_index, wordW_and_index]
  · have hoff (e : Byte) : wordW r e &&& 0xFFFF ≠ row.pattern := fun h =>
      hne (by rw [← h, class_and, wordW_class]; exact BitVec.zero_and)
    exact iff_of_false (hoff d) (hoff 0)
  · rw [wordW_eq_wordH, wordW_eq_wordH, wordH_and_class, wordH_and_class]

/-- No row tells apart the nonzero low bits of a class that is not 0. -/
theorem decodingRows_wordH {op : BitVec 4} {low low' : BitVec 12} (hop : op ≠ 0) (h : low ≠ 0) (h' : low' ≠ 0) :
    decodingRows (wordH op low) = decodingRows (wordH op low') := by
  refine decodingRows_congr fun row hrow => ?_
  rcases opcodeRow_kinds row hrow with ⟨hmask, hzero⟩ | ⟨hmask, -, hlow⟩ | hmask <;> rw [hmask]
  · have hoff (l : BitVec 12) : wordH op l &&& 0xFF00 ≠ row.pattern := fun e =>
      hop (by rw [← hzero, ← e, class_and, wordH_class]; exact BitVec.and_allOnes.symm)
    exact iff_of_false (hoff _) (hoff _)
  · have hoff {l : BitVec 12} (hl : l ≠ 0) : wordH op l &&& 0xFFFF ≠ row.pattern := fun e =>
      hl (by rw [← hlow, ← e, show (0xFFFF : CmdWord) = BitVec.allOnes 16 from rfl, BitVec.and_allOnes, wordH_low])
    exact iff_of_false (hoff h) (hoff h')
  · rw [wordH_and_class, wordH_and_class]

/-- The name of a `WRITE`'s row does not depend on the data byte. -/
theorem mnemonic_write (r : BitVec 4) (d : Byte) : (Instr.write r d).mnemonic = (Instr.write r 0).mnemonic := by
  obtain ⟨⟨n, hn⟩⟩ := r
  interval_cases n <;> rfl

/-- The name of the row of a class depends on whether the low bits are 0 alone. -/
theorem mnemonic_decode_wordH {c : Command} {op : BitVec 4} {low : BitVec 12} (hc : c.word = wordH op low)
    (hop : op ≠ 0) :
    (decode c).mnemonic = (decode (.ofWord (wordH op (if low = 0 then 0 else 1)))).mnemonic := by
  simp only [decode, Command.ofWord, hc, wordH_class, wordH_low]
  obtain ⟨⟨n, hn⟩⟩ := op
  by_cases hlow : low = 0 <;> simp only [hlow, if_true, if_false]
  all_goals
    interval_cases n
    · exact absurd rfl hop
    all_goals rfl

/-- One row decodes the word of format `W` with data byte 0, and it has the operation's name. -/
theorem decodingRows_wordW_zero : ∀ r : BitVec 4,
    (decodingRows (wordW r 0)).map (·.mnemonic) = [(Instr.write r 0).mnemonic] := by
  decide

/-- One row decodes the words of another class with low bits 0 and 1, and it has the operation's name. -/
theorem decodingRows_wordH_zero_and_one : ∀ op : BitVec 4, op ≠ 0 →
    (decodingRows (wordH op 0)).map (·.mnemonic) = [(decode (.ofWord (wordH op 0))).mnemonic] ∧
    (decodingRows (wordH op 1)).map (·.mnemonic) = [(decode (.ofWord (wordH op 1))).mnemonic] := by
  decide

/-- Settles O4: the rows treat every word as one of 46 representatives, each of which one row decodes. -/
theorem oneRowDecodesEachWord : Obligations.OneRowDecodesEachWord := by
  intro c
  rw [← List.map_eq_singleton_iff]
  rcases wordW_or_wordH c.word with ⟨r, d, hc⟩ | ⟨op, low, hop, hc⟩
  · rw [decode_wordW hc, hc, decodingRows_wordW, mnemonic_write, decodingRows_wordW_zero]
  · rw [mnemonic_decode_wordH hc hop, hc]
    by_cases hlow : low = 0
    · rw [if_pos hlow, hlow]
      exact (decodingRows_wordH_zero_and_one op hop).1
    · rw [if_neg hlow, decodingRows_wordH (low' := 1) hop hlow (by decide)]
      exact (decodingRows_wordH_zero_and_one op hop).2

/-! ### Words of the vectors, and the step -/

/-- Settles O1: each of the words is decoded by evaluation; `SNAP_IMPORT` passes its record on. -/
theorem specWordsDecode : Obligations.SpecWordsDecode := by
  refine ⟨?_, ?_, ?_, ?_, ?_, ?_, ?_, ?_, ?_, ?_, fun σ => ?_, ?_, ?_, ?_⟩
  case refine_11 =>
    obtain ⟨_, hencode, hdecode⟩ := (decodeOfEncodeIsTheOperation (.snapImport σ)).1 rfl rfl
    cases hencode
    exact hdecode
  all_goals rfl

/-- Settles O5: the two arms of `step`; a 16-bit word is not changed by the reduction to 16 bits. -/
theorem stepRunsTheOldestCommand : Obligations.StepRunsTheOldestCommand := by
  refine fun s => ⟨fun h => ?_, fun c rest h => step_of_inbox s h, fun w => ?_⟩
  · simp only [step, h]
  · rw [step_of_inbox _ rfl, Nat.mod_eq_of_lt w.isLt, BitVec.ofNat_toNat, BitVec.setWidth_eq]
    rfl

end Sys2Proof.Machine
end

section
/-!
PROOFS. The register writes and the derived state (`10_state.md` R29): a write is a store and its register's update,
an update makes its own group of derived fields agree with the registers, and every write keeps the other groups.
-/

namespace Sys2Proof.Machine

variable {s : State} {v : Fin 3} {r : Fin 14} {d : Byte}

/-! ### A write as a store and an update -/

/-- The update that follows the store to register `r` (R101 to R115). -/
def regUpdate : Fin 14 → State → State
  | 0 | 1 => toneUpdate 0
  | 2 | 3 => toneUpdate 1
  | 4 | 5 => toneUpdate 2
  | 6 => noiseUpdate
  | 7 => gatesUpdate
  | 8 => ampUpdate 0
  | 9 => ampUpdate 1
  | 10 => ampUpdate 2
  | 11 | 12 => envUpdate
  | 13 => shapeUpdate

/-- A write to a register stores the byte and updates what depends on it (R117). -/
theorem writeEffect_eq_regUpdate (s : State) (r : Fin 14) (d : Byte) :
    writeEffect (BitVec.ofNat 4 r.val) d s = regUpdate r (s.putReg r d) := by
  fin_cases r <;> rfl

theorem exec_writeOp (s : State) (r : Fin 14) (d : Byte) :
    exec (writeOp r.val d) s = .next (regUpdate r (s.putReg r d)) := by
  rw [writeOp, exec_write, writeEffect_eq_regUpdate]

/-- A run of register writes. -/
def writeRegs (ws : List (Fin 14 × Byte)) (s : State) : State :=
  ws.foldl (fun u w => regUpdate w.1 (u.putReg w.1 w.2)) s

theorem execAll_writeOps (ws : List (Fin 14 × Byte)) (s : State) :
    execAll (ws.map fun w => writeOp w.1.val w.2) s = .next (writeRegs ws s) := by
  induction ws generalizing s with
  | nil => rfl
  | cons w ws ih =>
    rw [List.map_cons, execAll_cons _ (exec_writeOp s w.1 w.2), ih]
    rfl

@[simp] theorem regUpdate_reg (r : Fin 14) (s : State) : (regUpdate r s).reg = s.reg := by
  fin_cases r <;> rfl

/-- The registers of the pair of voice `v`, the fine one for `k = 0` (R73). -/
def toneReg (v : Fin 3) (k : Fin 2) : Fin 14 := ⟨2 * v.val + k.val, by omega⟩

/-- The amplitude register of voice `v` (R74). -/
def ampReg (v : Fin 3) : Fin 14 := ⟨8 + v.val, by omega⟩

/-- The registers by what their update is. -/
theorem register_cases {motive : Fin 14 → Prop} (tone : ∀ v k, motive (toneReg v k)) (noise : motive 6)
    (mixer : motive 7) (amp : ∀ v, motive (ampReg v)) (envFine : motive 11) (envCoarse : motive 12)
    (shape : motive 13) : ∀ r, motive r
  | 0 => tone 0 0
  | 1 => tone 0 1
  | 2 => tone 1 0
  | 3 => tone 1 1
  | 4 => tone 2 0
  | 5 => tone 2 1
  | 6 => noise
  | 7 => mixer
  | 8 => amp 0
  | 9 => amp 1
  | 10 => amp 2
  | 11 => envFine
  | 12 => envCoarse
  | 13 => shape

/-- The registers of a voice's pair are followed by its tone update (R101 to R106). -/
theorem regUpdate_toneReg (v : Fin 3) (k : Fin 2) : regUpdate (toneReg v k) = toneUpdate v := by
  fin_cases v <;> fin_cases k <;> rfl

/-- The amplitude register of a voice is followed by its amplitude update (R110 to R112). -/
theorem regUpdate_ampReg (v : Fin 3) : regUpdate (ampReg v) = ampUpdate v := by
  fin_cases v <;> rfl

/-- A write is to an index of a register, or to one that holds none (R116). -/
theorem writeEffect_cases (s : State) (i : BitVec 4) (d : Byte) :
    writeEffect i d s = s ∨ ∃ r : Fin 14, writeEffect i d s = regUpdate r (s.putReg r d) := by
  by_cases hi : i.toNat < 14
  · refine .inr ⟨⟨i.toNat, hi⟩, ?_⟩
    rw [← writeEffect_eq_regUpdate, BitVec.ofNat_toNat, BitVec.setWidth_eq]
  · exact .inl (writeEffect_of_no_register s (Nat.le_of_not_lt hi) d)

/-- A register read after a write to another one. -/
theorem putReg_get_ne (s : State) (d : Byte) {i : Nat} (hi : i < 14) (h : r.val ≠ i) :
    (s.putReg r d).reg[i] = s.reg[i] := by
  rw [putReg_get, if_neg h]

/-! ### The groups of derived fields -/

/-- The tone step of voice `v` is that of its register pair, and a step of 0 pins the position. -/
def ToneAgrees (v : Fin 3) (s : State) : Prop :=
  s.tstep[v] = toneStep s.cfg s.reg[2 * v.val + 1] s.reg[2 * v.val] ∧ (s.tstep[v] = 0 → s.pos[v] = 0x80000000)

/-- The noise step is that of register 6, and a step of 0 pins the position and the level. -/
def NoiseAgrees (s : State) : Prop :=
  s.nstep = noiseStep s.cfg s.reg[6] ∧ (s.nstep = 0 → s.npos = 0 ∧ s.nlev = 0xFFFF)

/-- The gates of voice `v` are those of register 7. -/
def GatesAgree (v : Fin 3) (s : State) : Prop :=
  s.gateT[v] = toneGate s.reg[7] v ∧ s.gateN[v] = noiseGate s.reg[7] v

/-- The fields of voice `v` in the two three-voice words are those of its amplitude register. -/
def AmpAgrees (v : Fin 3) (s : State) : Prop :=
  levelOf v s.envMask3 = (if envMode s.reg[8 + v.val] then 31 else 0) ∧
  levelOf v s.vol3 = if envMode s.reg[8 + v.val] then 0 else vol4to5 (fixedVolume s.reg[8 + v.val])

/-- The envelope step is that of registers 11 and 12. -/
def EnvAgrees (s : State) : Prop := s.estep = envStep s.cfg s.reg[12] s.reg[11]

/-- The shape is that of register 13. -/
def ShapeAgrees (s : State) : Prop := s.shape = s.reg[13].extractLsb' 0 4

/-- R29 is the agreement of every group. -/
theorem derived_iff : Derived s ↔
    (∀ v, ToneAgrees v s) ∧ NoiseAgrees s ∧ (∀ v, GatesAgree v s) ∧ (∀ v, AmpAgrees v s) ∧ EnvAgrees s ∧
      ShapeAgrees s :=
  ⟨fun h => ⟨fun v => ⟨h.tstep v, h.tonePinned v⟩, ⟨h.nstep, h.noisePinned⟩, fun v => ⟨h.gateT v, h.gateN v⟩,
    fun v => ⟨h.envField v, h.volField v⟩, h.estep, h.shape⟩,
  fun ⟨ht, hn, hg, ha, he, hs⟩ => ⟨fun v => (ht v).1, hn.1, he, fun v => (hg v).1, fun v => (hg v).2,
    fun v => (ha v).1, fun v => (ha v).2, hs, fun v => (ht v).2, hn.2⟩⟩

/-! ### An update makes its group agree, from every state -/

theorem toneAgrees_toneUpdate (s : State) (v : Fin 3) : ToneAgrees v (toneUpdate v s) := by
  simp only [ToneAgrees, toneUpdate_tstep, toneUpdate_pos, toneUpdate_reg, toneUpdate_cfg, Fin.getElem_fin,
    Vector.getElem_set_self, true_and]
  intro hzero
  simp only [hzero, if_true, Vector.getElem_set_self]
  rfl

theorem noiseAgrees_noiseUpdate (s : State) : NoiseAgrees (noiseUpdate s) := by
  obtain ⟨hstep, hpos, hlev⟩ := noiseUpdate_spec s
  exact ⟨hstep, fun hzero => by rw [hpos, hlev, ← hstep, if_pos hzero, if_pos hzero]; exact ⟨rfl, rfl⟩⟩

theorem gatesAgree_gatesUpdate (s : State) (v : Fin 3) : GatesAgree v (gatesUpdate s) :=
  ⟨gatesUpdate_gateT s v, gatesUpdate_gateN s v⟩

theorem ampAgrees_ampUpdate (s : State) (v : Fin 3) : AmpAgrees v (ampUpdate v s) := by
  obtain ⟨henv, hvol⟩ := ampUpdate_spec s v
  exact ⟨by rw [henv, levelOf_ampEnvWord, if_pos rfl]; rfl, by rw [hvol, levelOf_ampVolWord, if_pos rfl]; rfl⟩

theorem envAgrees_envUpdate (s : State) : EnvAgrees (envUpdate s) := rfl

theorem shapeAgrees_shapeUpdate (s : State) : ShapeAgrees (shapeUpdate s) := rfl

/-! ### A write keeps every group -/

theorem toneAgrees_toneUpdate_of_agrees (u : Fin 3) (h : ToneAgrees v s) : ToneAgrees v (toneUpdate u s) := by
  by_cases hu : v = u
  · exact hu ▸ toneAgrees_toneUpdate s v
  · have hne : u.val ≠ v.val := fun e => hu (Fin.ext e.symm)
    have hstep : (toneUpdate u s).tstep[v] = s.tstep[v] := Vector.getElem_set_ne u.isLt v.isLt hne
    have hpos : (toneUpdate u s).pos[v] = s.pos[v] := by
      rw [toneUpdate_pos]
      split
      · exact Vector.getElem_set_ne u.isLt v.isLt hne
      · rfl
    rw [ToneAgrees, hstep, hpos]
    exact h

theorem ampAgrees_ampUpdate_of_agrees (u : Fin 3) (h : AmpAgrees v s) : AmpAgrees v (ampUpdate u s) := by
  by_cases hu : v = u
  · exact hu ▸ ampAgrees_ampUpdate s v
  · obtain ⟨henv, hvol⟩ := ampUpdate_spec s u
    rw [AmpAgrees, henv, hvol, levelOf_ampEnvWord, levelOf_ampVolWord, if_neg hu, if_neg hu]
    exact h

/-- A group of derived fields with the registers it reads: their update makes it agree, and neither an update nor a
store to another register breaks it. -/
structure WriteGroup (own : Fin 14 → Prop) (P : State → Prop) : Prop where
  established : ∀ r u, own r → P (regUpdate r u)
  updated : ∀ r u, P u → P (regUpdate r u)
  stored : ∀ r d u, ¬own r → P u → P (u.putReg r d)

theorem toneAgrees_group (v : Fin 3) : WriteGroup (fun r => r.val / 2 = v.val) (ToneAgrees v) where
  established r u hr := by
    have hreg : r = toneReg v ⟨r.val % 2, by omega⟩ := Fin.ext (by simp only [toneReg]; omega)
    rw [hreg, regUpdate_toneReg]
    exact toneAgrees_toneUpdate u v
  updated r u h := by
    cases r using register_cases with
    | tone w k =>
      rw [regUpdate_toneReg]
      exact toneAgrees_toneUpdate_of_agrees w h
    | amp w =>
      rw [regUpdate_ampReg]
      exact h
    | noise | mixer | envFine | envCoarse | shape => exact h
  stored r d u hr h := by
    rw [ToneAgrees, putReg_get_ne u d _ (by omega), putReg_get_ne u d _ (by omega)]
    exact h

theorem noiseAgrees_group : WriteGroup (· = 6) NoiseAgrees where
  established r u hr := hr ▸ noiseAgrees_noiseUpdate u
  updated r u h := by
    cases r using register_cases with
    | tone w k =>
      rw [regUpdate_toneReg]
      exact h
    | amp w =>
      rw [regUpdate_ampReg]
      exact h
    | noise => exact noiseAgrees_noiseUpdate u
    | mixer | envFine | envCoarse | shape => exact h
  stored r d u hr h := by
    rw [NoiseAgrees, putReg_get_ne u d _ (by omega)]
    exact h

theorem gatesAgree_group (v : Fin 3) : WriteGroup (· = 7) (GatesAgree v) where
  established r u hr := hr ▸ gatesAgree_gatesUpdate u v
  updated r u h := by
    cases r using register_cases with
    | tone w k =>
      rw [regUpdate_toneReg]
      exact h
    | amp w =>
      rw [regUpdate_ampReg]
      exact h
    | mixer => exact gatesAgree_gatesUpdate u v
    | noise | envFine | envCoarse | shape => exact h
  stored r d u hr h := by
    rw [GatesAgree, putReg_get_ne u d _ (by omega)]
    exact h

theorem ampAgrees_group (v : Fin 3) : WriteGroup (fun r => r.val = 8 + v.val) (AmpAgrees v) where
  established r u hr := by
    have hreg : r = ampReg v := Fin.ext hr
    rw [hreg, regUpdate_ampReg]
    exact ampAgrees_ampUpdate u v
  updated r u h := by
    cases r using register_cases with
    | tone w k =>
      rw [regUpdate_toneReg]
      exact h
    | amp w =>
      rw [regUpdate_ampReg]
      exact ampAgrees_ampUpdate_of_agrees w h
    | noise | mixer | envFine | envCoarse | shape => exact h
  stored r d u hr h := by
    rw [AmpAgrees, putReg_get_ne u d _ (by omega)]
    exact h

theorem envAgrees_group : WriteGroup (fun r => r = 11 ∨ r = 12) EnvAgrees where
  established r u hr := by
    rcases hr with rfl | rfl <;> exact envAgrees_envUpdate u
  updated r u h := by
    cases r using register_cases with
    | tone w k =>
      rw [regUpdate_toneReg]
      exact h
    | amp w =>
      rw [regUpdate_ampReg]
      exact h
    | envFine | envCoarse => exact envAgrees_envUpdate u
    | noise | mixer | shape => exact h
  stored r d u hr h := by
    rw [EnvAgrees, putReg_get_ne u d _ (by omega), putReg_get_ne u d _ (by omega)]
    exact h

theorem shapeAgrees_group : WriteGroup (· = 13) ShapeAgrees where
  established r u hr := hr ▸ shapeAgrees_shapeUpdate u
  updated r u h := by
    cases r using register_cases with
    | tone w k =>
      rw [regUpdate_toneReg]
      exact h
    | amp w =>
      rw [regUpdate_ampReg]
      exact h
    | shape => exact shapeAgrees_shapeUpdate u
    | noise | mixer | envFine | envCoarse => exact h
  stored r d u hr h := by
    rw [ShapeAgrees, putReg_get_ne u d _ (by omega)]
    exact h

section
variable {own : Fin 14 → Prop} {P : State → Prop}

/-- A write keeps a group: it is to one of its registers, and makes it agree, or to another. -/
theorem WriteGroup.write (hg : WriteGroup own P) (r : Fin 14) (d : Byte) (h : P s) :
    P (regUpdate r (s.putReg r d)) := by
  by_cases hr : own r
  · exact hg.established r _ hr
  · exact hg.updated r _ (hg.stored r d s hr h)

/-- A run of register writes keeps a group. -/
theorem WriteGroup.writeRegs (hg : WriteGroup own P) (ws : List (Fin 14 × Byte)) (h : P s) :
    P (writeRegs ws s) := by
  induction ws generalizing s with
  | nil => exact h
  | cons w ws ih => exact ih (hg.write w.1 w.2 h)

/-- A run of register writes makes a group agree, from every state, when it writes one of its registers. -/
theorem WriteGroup.writeRegs_of_own (hg : WriteGroup own P) {w : Fin 14 × Byte} (hw : own w.1)
    {ws : List (Fin 14 × Byte)} (hmem : w ∈ ws) (s : State) : P (Machine.writeRegs ws s) := by
  induction ws generalizing s with
  | nil => cases hmem
  | cons w' ws ih =>
    cases hmem with
    | head => exact hg.writeRegs ws (hg.established _ _ hw)
    | tail _ hmem => exact ih hmem _

end

/-- A register write keeps the derived-state invariant (R29). -/
theorem derived_write (h : Derived s) (r : Fin 14) (d : Byte) : Derived (regUpdate r (s.putReg r d)) := by
  obtain ⟨ht, hn, hg, ha, he, hs⟩ := derived_iff.mp h
  exact derived_iff.mpr ⟨fun v => (toneAgrees_group v).write r d (ht v), noiseAgrees_group.write r d hn,
    fun v => (gatesAgree_group v).write r d (hg v), fun v => (ampAgrees_group v).write r d (ha v),
    envAgrees_group.write r d he, shapeAgrees_group.write r d hs⟩

/-! ### An update changes nothing where its group agrees -/

theorem toneUpdate_of_agrees (h : ToneAgrees v s) : toneUpdate v s = s := by
  have hstep : (toneUpdate v s).tstep = s.tstep := by
    rw [toneUpdate_tstep, ← h.1]
    exact Vector.set_getElem_self ..
  have hpos : (toneUpdate v s).pos = s.pos := by
    rw [toneUpdate_pos, ← h.1]
    split
    · next hzero => exact (congrArg (s.pos.set v.val) (h.2 hzero).symm).trans (Vector.set_getElem_self ..)
    · rfl
  calc toneUpdate v s = { s with tstep := (toneUpdate v s).tstep, pos := (toneUpdate v s).pos } := rfl
    _ = s := by rw [hstep, hpos]

theorem noiseUpdate_of_agrees (h : NoiseAgrees s) : noiseUpdate s = s := by
  obtain ⟨hstep, hpinned⟩ := h
  have hpos : (if s.nstep = 0 then 0 else s.npos) = s.npos := ite_eq_right_iff.mpr fun hzero => (hpinned hzero).1.symm
  have hlev : (if s.nstep = 0 then 0xFFFF else s.nlev) = s.nlev :=
    ite_eq_right_iff.mpr fun hzero => (hpinned hzero).2.symm
  simp only [noiseUpdate, ← hstep, hpos, hlev]

theorem gatesUpdate_of_agrees (h : ∀ v, GatesAgree v s) : gatesUpdate s = s := by
  have htone : (gatesUpdate s).gateT = s.gateT := by
    ext v hv : 1
    exact (gatesUpdate_gateT s ⟨v, hv⟩).trans (h ⟨v, hv⟩).1.symm
  have hnoise : (gatesUpdate s).gateN = s.gateN := by
    ext v hv : 1
    exact (gatesUpdate_gateN s ⟨v, hv⟩).trans (h ⟨v, hv⟩).2.symm
  calc gatesUpdate s = { s with gateT := (gatesUpdate s).gateT, gateN := (gatesUpdate s).gateN } := rfl
    _ = s := by rw [htone, hnoise]

theorem ampUpdate_of_agrees (h : AmpAgrees v s) : ampUpdate v s = s := by
  obtain ⟨henv, hvol⟩ := h
  have henv' : ampEnvWord v s.reg[8 + v.val] s.envMask3 = s.envMask3 := word3_ext _ _ fun u => by
    rw [levelOf_ampEnvWord]
    split
    · next hu => rw [hu, henv]
    · rfl
  have hvol' : ampVolWord v s.reg[8 + v.val] s.vol3 = s.vol3 := word3_ext _ _ fun u => by
    rw [levelOf_ampVolWord]
    split
    · next hu => rw [hu, hvol]
    · rfl
  simp only [ampUpdate, henv', hvol']

theorem envUpdate_of_agrees (h : EnvAgrees s) : envUpdate s = s := by
  simp only [envUpdate, ← (show s.estep = envStep s.cfg s.reg[12] s.reg[11] from h)]

theorem shapeUpdate_of_agrees (h : ShapeAgrees s) : shapeUpdate s = { s with epos := 0, shapeChanged := true } := by
  simp only [shapeUpdate, ← (show s.shape = s.reg[13].extractLsb' 0 4 from h)]
  rfl

/-- In a state that meets the derived-state invariant the update of a register is idle, but for the shape's, which
restarts the envelope. -/
theorem regUpdate_of_derived (h : Derived s) (r : Fin 14) :
    regUpdate r s = if r = 13 then { s with epos := 0, shapeChanged := true } else s := by
  obtain ⟨ht, hn, hg, ha, he, hs⟩ := derived_iff.mp h
  cases r using register_cases with
  | tone w k =>
    have hne : toneReg w k ≠ 13 := by revert w k; decide
    rw [regUpdate_toneReg, if_neg hne, toneUpdate_of_agrees (ht w)]
  | amp w =>
    have hne : ampReg w ≠ 13 := by revert w; decide
    rw [regUpdate_ampReg, if_neg hne, ampUpdate_of_agrees (ha w)]
  | noise => exact noiseUpdate_of_agrees hn
  | mixer => exact gatesUpdate_of_agrees hg
  | envFine | envCoarse => exact envUpdate_of_agrees he
  | shape => exact shapeUpdate_of_agrees hs

/-- A tone update leaves a sentinel (R100). -/
theorem toneUpdate_pos_of_sentinel (h : s.pos[v] = 0x80000000) : (toneUpdate v s).pos[v] = 0x80000000 := by
  rw [toneUpdate_pos]
  split
  · exact Vector.getElem_set_self ..
  · exact h

/-! ### The obligations -/

/-- Settles O8: the store puts the byte under the mask, no update writes a register, and the shape's alone the flag. -/
theorem writeStoresTheMaskedByte : Obligations.WriteStoresTheMaskedByte := by
  intro r d s
  refine ⟨regUpdate r (s.putReg r d), exec_writeOp s r d, ?_, ?_⟩
  · rw [regUpdate_reg]
    rfl
  · fin_cases r <;> rfl

/-- Settles O16: storing the held byte changes nothing, and its update is idle in a derived state. -/
theorem rewritingTheHeldByteRestartsTheEnvelopeAlone : Obligations.RewritingTheHeldByteRestartsTheEnvelopeAlone := by
  intro r d s h hheld
  have hstore : s.putReg r d = s := by
    have hset : s.reg.set r.val (d &&& regMask[r]) = s.reg := by
      rw [hheld]
      exact Vector.set_getElem_self ..
    rw [State.putReg, hset]
  rw [exec_write, writeEffect_eq_regUpdate, hstore, regUpdate_of_derived h]

/-- Settles O17: the first write leaves step 0 and so the sentinel; the second sets it again or leaves it. -/
theorem subFloorPeriodResetsThePhase : Obligations.SubFloorPeriodResetsThePhase := by
  intro v k d e s t u ht hperiod hu
  cases (exec_writeOp s (toneReg v k) d).symm.trans ht
  cases (exec_writeOp _ (toneReg v ⟨1 - k.val, by omega⟩) e).symm.trans hu
  simp only [regUpdate_toneReg] at hperiod ⊢
  obtain ⟨hstep, hpinned⟩ := toneAgrees_toneUpdate (s.putReg (toneReg v k) d) v
  have hfirst := hpinned (hstep.trans (if_pos hperiod))
  exact ⟨hfirst, toneUpdate_pos_of_sentinel hfirst⟩

/-- A field of up to eight bits put in a byte survives a mask that covers it. -/
theorem setWidth_and_mask {n : Nat} (x : BitVec n) {m : Byte} (h : ∀ i < n, i < 8 → m.getLsbD i = true) :
    x.setWidth 8 &&& m = x.setWidth 8 := by
  apply BitVec.eq_of_getLsbD_eq
  intro i hi
  rw [BitVec.getLsbD_and, BitVec.getLsbD_setWidth]
  rcases Nat.lt_or_ge i n with hn | hn
  · rw [h i hn hi, Bool.and_true]
  · rw [BitVec.getLsbD_of_ge x i hn, Bool.and_false, Bool.false_and]

theorem setWidth_byte_toNat {n : Nat} (hn : n ≤ 8) (x : BitVec n) : (x.setWidth 8).toNat = x.toNat := by
  rw [BitVec.toNat_setWidth]
  exact Nat.mod_eq_of_lt (x.isLt.trans_le (Nat.pow_le_pow_right (by decide) hn))

/-- The register after a run of one write. -/
theorem writeRegs_one_reg (r : Fin 14) (d : Byte) (s : State) :
    (writeRegs [(r, d)] s).reg[r] = d &&& regMask[r] := by
  simp [writeRegs]

/-- The registers after a run of two writes. -/
theorem writeRegs_two_reg {r r' : Fin 14} (h : r' ≠ r) (d d' : Byte) (s : State) :
    (writeRegs [(r, d), (r', d')] s).reg[r] = d &&& regMask[r] ∧
    (writeRegs [(r, d), (r', d')] s).reg[r'] = d' &&& regMask[r'] := by
  have hne : r'.val ≠ r.val := fun e => h (Fin.ext e)
  simp [writeRegs, Vector.getElem_set_ne _ _ hne]

/-- A field written alone is left in the register when the register's mask covers it. -/
theorem writeRegs_field_toNat {n : Nat} (hn : n ≤ 8) {r : Fin 14} (x : BitVec n)
    (hmask : ∀ i < n, i < 8 → regMask[r].getLsbD i = true) (s : State) :
    ((writeRegs [(r, x.setWidth 8)] s).reg[r]).toNat = x.toNat := by
  rw [writeRegs_one_reg, setWidth_and_mask x hmask, setWidth_byte_toNat hn]

theorem regMask_toneReg_one (v : Fin 3) : regMask[toneReg v 1] = 0x0F := regMask_tone v 1

theorem regMask_toneReg_zero (v : Fin 3) : regMask[toneReg v 0] = 0xFF := regMask_tone v 0

/-- The pair written by `SETTONE` holds its period: 8 bits in the fine register, 4 in the coarse one (R73, R77). -/
theorem tonePeriod_slices (p : BitVec 12) :
    tonePeriod ((p.extractLsb' 8 4).setWidth 8 &&& 0x0F) (p.extractLsb' 0 8 &&& 0xFF) = p.toNat := by
  have hp := p.isLt
  rw [tonePeriod_eq, setWidth_and_mask _ (by decide), setWidth_byte_toNat (by decide)]
  simp only [show (0xFF : Byte) = BitVec.allOnes 8 from rfl, BitVec.and_allOnes, BitVec.extractLsb'_toNat,
    Nat.shiftRight_eq_div_pow]
  omega

/-- The pair written by `SETENV` holds its period (R73, R77). -/
theorem envPeriod_slices (p : BitVec 16) :
    envPeriod (p.extractLsb' 8 8 &&& 0xFF) (p.extractLsb' 0 8 &&& 0xFF) = p.toNat := by
  have hp := p.isLt
  rw [envPeriod_eq]
  simp only [show (0xFF : Byte) = BitVec.allOnes 8 from rfl, BitVec.and_allOnes, BitVec.extractLsb'_toNat,
    Nat.shiftRight_eq_div_pow]
  omega

/-- Settles O18: every expansion is a run of register writes, and the masks keep the bits of the field. -/
theorem pseudoOperationsProgramTheirField : Obligations.PseudoOperationsProgramTheirField := by
  intro s
  refine ⟨fun v p => ⟨_, execAll_writeOps [(toneReg v 0, _), (toneReg v 1, _)] s, ?_⟩,
    fun p => ⟨_, execAll_writeOps [(6, _)] s, ?_⟩, fun m => ⟨_, execAll_writeOps [(7, _)] s, ?_⟩,
    fun v l => ⟨_, execAll_writeOps [(ampReg v, _)] s, ?_⟩,
    fun v => ⟨_, execAll_writeOps [(ampReg v, _)] s, ?_⟩,
    fun p => ⟨_, execAll_writeOps [(11, _), (12, _)] s, ?_⟩, fun sh => ⟨_, execAll_writeOps [(13, _)] s, ?_⟩⟩
  · have hne : toneReg v 1 ≠ toneReg v 0 := fun e => absurd (congrArg Fin.val e) (Nat.succ_ne_self _)
    obtain ⟨hlo, hhi⟩ := writeRegs_two_reg hne (p.extractLsb' 0 8) ((p.extractLsb' 8 4).setWidth 8) s
    rw [regMask_toneReg_zero] at hlo
    rw [regMask_toneReg_one] at hhi
    exact (congrArg₂ tonePeriod hhi hlo).trans (tonePeriod_slices p)
  · exact writeRegs_field_toNat (r := 6) (by decide) (BitVec.ofNat 5 p) (by decide) s
  · exact writeRegs_field_toNat (r := 7) (by decide) (BitVec.ofNat 6 m) (by decide) s
  · refine writeRegs_field_toNat (r := ampReg v) (by decide) l ?_ s
    revert v
    decide
  · refine writeRegs_field_toNat (r := ampReg v) (n := 5) (by decide) 0x10 ?_ s
    revert v
    decide
  · obtain ⟨hlo, hhi⟩ := writeRegs_two_reg (r := 11) (r' := 12) (by decide) (p.extractLsb' 0 8) (p.extractLsb' 8 8) s
    exact (congrArg₂ envPeriod hhi hlo).trans (envPeriod_slices p)
  · exact writeRegs_field_toNat (r := 13) (by decide) (BitVec.ofNat 4 sh) (by decide) s

end Sys2Proof.Machine
end

section
/-!
PROOFS. The sample (`42_envelope.md`, `43_noise.md`, `45_sample_synthesizer.md`): the envelope table against the shape
bits, the phases after a sample, and the volume index as three levels.
-/

namespace Sys2Proof.Machine

variable {s : State} {v : Fin 3}

/-! ### The envelope table -/

/-- The value of a primitive at entry `i` of its block (R131). -/
def rampValue : Ramp → Nat → Nat
  | .goDown, i => 31 - i
  | .goUp, i => i
  | .down, _ => 0
  | .up, _ => 31

theorem envLevel_eq_rampValue (n k : Nat) : envLevel n k = rampValue (shapeBlock n (k / 32)) (k % 32) := by
  unfold envLevel
  cases shapeBlock n (k / 32) <;> simp only [rampStart, rampDelta, rampValue] <;> omega

/-- The primitive that the four shape bits select in block `b` (R132). -/
def bitsRamp (n : BitVec 4) (b : Nat) : Ramp :=
  let go := fun up : Bool => if up then Ramp.goUp else Ramp.goDown
  if b = 0 then go (n.getLsbD 2)
  else if !n.getLsbD 3 then .down
  else if n.getLsbD 0 then (if n.getLsbD 2 != n.getLsbD 1 then .up else .down)
  else go (n.getLsbD 2 != (n.getLsbD 1 && b == 1))

theorem bitsLevel_eq_rampValue (n : BitVec 4) (k : Nat) : bitsLevel n k = rampValue (bitsRamp n (k / 32)) (k % 32) := by
  have hfirst : k / 32 = 0 ↔ k < 32 := by omega
  simp only [bitsLevel, bitsRamp, hfirst, apply_ite (rampValue · (k % 32))]
  rfl

/-- The blocks of the chart are those of the shape bits (R132). -/
theorem shapeBlock_eq_bitsRamp : ∀ (n : BitVec 4) (b : Fin 3), shapeBlock n.toNat b = bitsRamp n b := by decide

theorem envLevel_le (n k : Nat) : envLevel n k ≤ 31 := by
  rw [envLevel_eq_rampValue]
  cases shapeBlock n (k / 32) <;> simp only [rampValue] <;> omega

theorem envTable_getElem (n : BitVec 4) {k : Nat} (h : k < 96) :
    (envTable[n.toNat]'n.isLt)[k] = BitVec.ofNat 15 (envLevel n.toNat k * 0x421) := by
  simp [envTable]

/-- Settles O21: block by block the chart's primitive is that of the shape bits, and no entry overflows 15 bits. -/
theorem envelopeTableIsTheChart : Obligations.EnvelopeTableIsTheChart := by
  intro n k hk
  have hlevel : envLevel n.toNat k = bitsLevel n k := by
    rw [envLevel_eq_rampValue, bitsLevel_eq_rampValue]
    exact congrArg (rampValue · (k % 32)) (shapeBlock_eq_bitsRamp n ⟨k / 32, by omega⟩)
  have hle := envLevel_le n.toNat k
  rw [envTable_getElem n hk, ← hlevel]
  exact ⟨Nat.mod_eq_of_lt (by omega), hle⟩

/-! ### The phases after a sample -/

/-- Settles O22: the position after a sample is the wrapped sum (R134). -/
theorem envelopeAdvanceStaysInTheTable : Obligations.EnvelopeAdvanceStaysInTheTable := by
  intro s hfrac
  have hlt := envWrapped_lt s.cfg hfrac.ge (s.epos + s.estep)
  rw [hfrac] at hlt
  rw [(nextSample_positions s).2]
  refine ⟨hlt, ?_⟩
  rw [envWrapped_toNat hfrac, BitVec.toNat_add]

/-- Settles O25: a sample's noise is the tick's, which has two cases, and then the step. -/
theorem noiseTicksOncePerSample : Obligations.NoiseTicksOncePerSample := by
  intro s
  obtain ⟨hseed, hlev, hpos⟩ := nextSample_noise s
  rw [hseed, hlev, hpos]
  rcases noiseTick_cases s with ⟨hlt, htick⟩ | ⟨hge, htick⟩ <;> rw [htick]
  · exact ⟨fun _ => ⟨rfl, rfl, rfl⟩, fun hge => absurd hlt (Nat.not_lt.mpr hge)⟩
  · exact ⟨fun hlt => absurd hlt (Nat.not_lt.mpr hge), fun _ => ⟨rfl, rfl, rfl⟩⟩

/-- A noise position of 0 has no tick due. -/
theorem noiseTick_of_npos_zero (h : s.npos = 0) : noiseTick s = s := by
  rcases noiseTick_cases s with ⟨-, htick⟩ | ⟨hge, -⟩
  · exact htick
  · rw [h] at hge
    exact absurd hge (Nat.not_le.mpr (Nat.two_pow_pos _))

/-- The noise generator stands still at the seed given (R107, R141). -/
structure NoisePinned (seed : Lfsr) (s : State) : Prop where
  nstep : s.nstep = 0
  seed : s.seed = seed
  nlev : s.nlev = 0xFFFF
  npos : s.npos = 0

/-- A sample does not move a pinned noise generator. -/
theorem nextSample_noisePinned {seed : Lfsr} (h : NoisePinned seed s) : NoisePinned seed (nextSample s).2 := by
  obtain ⟨hseed, hlev, hpos⟩ := nextSample_noise s
  rw [noiseTick_of_npos_zero h.npos] at hseed hlev hpos
  exact ⟨(nextSample_nstep s).trans h.nstep, hseed.trans h.seed, hlev.trans h.nlev,
    by rw [hpos, h.npos, h.nstep]; rfl⟩

/-- Settles O26: the derived-state invariant pins the generator, and a sample does not move a pinned one. -/
theorem pinnedNoiseStaysPinned : Obligations.PinnedNoiseStaysPinned := by
  intro s n hderived hstep
  obtain ⟨hpos, hlev⟩ := hderived.noisePinned hstep
  have hpinned : NoisePinned s.seed (afterSamples n s) :=
    afterSamples_keeps (fun _ => nextSample_noisePinned) n ⟨hstep, rfl, hlev, hpos⟩
  exact ⟨hpinned.seed, hpinned.nlev, hpinned.npos⟩

/-- Settles O30: the sample handed out is the one of `nextSample`, whose frame is the listed fields. -/
theorem sampleWritesOnlyTheGenerators : Obligations.SampleWritesOnlyTheGenerators := by
  intro s
  refine ⟨(nextSample s).2.emit (.sample (nextSample s).1), rfl, ?_, rfl, (nextSample_positions s).1, ?_⟩
  · rw [emit_outbox, nextSample_outbox]
  · exact congrArg (fun u : State => { u with outbox := (nextSample s).2.outbox ++ [Output.sample (nextSample s).1] })
      (nextSample_frame s)

/-! ### The volume index -/

theorem envIndex_eq_div (s : State) : s.envIndex = s.epos.toNat / 2 ^ s.cfg.envFracBits := by
  rw [State.envIndex, BitVec.toNat_ushiftRight, Nat.shiftRight_eq_div_pow]

/-- With an index inside the table a sample reads no free value (R133). -/
theorem sampleIndex_of_inside {u : State} (hu : noiseTick s = u) (h : u.envIndex < 96) :
    sampleIndex s = (volumeIndex ((u.envTab[u.shape.toNat]'u.shape.isLt)[u.envIndex] &&& u.envMask3) u, u) := by
  simp only [sampleIndex, envRead, hu, readEnv_in _ _ h]

theorem levelOf_allOnes : ∀ v : Fin 3, levelOf v ((0xFFFF : Mask16).setWidth 15) = 31 := by decide

theorem levelOf_zero : ∀ v : Fin 3, levelOf v ((0x0000 : Mask16).setWidth 15) = 0 := by decide

/-- The voice's field of `act` is all ones or all zeros, by one bit of the mixer term (R173). -/
theorem levelOf_activeMask (s : State) (v : Fin 3) :
    levelOf v (activeMask s) = levelOf v ((mixerTerm v s).setWidth 15) := by
  have hfield (u : Fin 3) : levelOf v (activeField u s) =
      if v = u then levelOf v ((mixerTerm u s).setWidth 15) else 0 := by
    rw [activeField, levelOf_and, levelOf_voiceMask]
    split
    · exact level_and_ones _
    · exact BitVec.and_zero
  simp only [activeMask, levelOf_or, hfield]
  fin_cases v <;> simp

theorem levelOf_volumeIndex (w : Word3) (s : State) (v : Fin 3) :
    levelOf v (volumeIndex w s) =
      levelOf v ((mixerTerm v s).setWidth 15) &&& (levelOf v w ||| levelOf v s.vol3) := by
  rw [volumeIndex, levelOf_and, levelOf_or, levelOf_activeMask]

/-- The mixer term is the truth table's (R173), where the gates are those of register 7. -/
theorem mixerTerm_eq (hgates : GatesAgree v s) (hlev : s.nlev = 0x0000 ∨ s.nlev = 0xFFFF) :
    mixerTerm v s = if voiceActive v s then 0xFFFF else 0x0000 := by
  obtain ⟨htone, hnoise⟩ := hgates
  rw [mixerTerm, htone, hnoise, voiceActive, toneLevel, toneGate, noiseGate, gateOf, gateOf]
  generalize s.pos[v].getLsbD 31 = p
  generalize s.reg[7].getLsbD v = t
  generalize s.reg[7].getLsbD (v + 3) = n
  rcases hlev with hlev | hlev <;> rw [hlev] <;> revert p t n <;> decide

/-- The level of a table entry in a voice's field (R130). -/
theorem levelOf_envTable (n : BitVec 4) {k : Nat} (h : k < 96) (v : Fin 3) :
    levelOf v ((envTable[n.toNat]'n.isLt)[k]) = BitVec.ofNat 5 (envLevel n.toNat k) := by
  have hfields : ∀ l < 32, ∀ v : Fin 3, levelOf v (BitVec.ofNat 15 (l * 0x421)) = BitVec.ofNat 5 l := by decide
  rw [envTable_getElem n h]
  exact hfields _ (Nat.lt_succ_of_le (envLevel_le _ _)) v

/-- The level a voice contributes when it is active: the envelope's or the fixed one (R133, R174). -/
theorem levelOf_voice (hamp : AmpAgrees v s) (htab : s.envTab = envTable) (hindex : s.envIndex < 96) :
    (levelOf v ((s.envTab[s.shape.toNat]'s.shape.isLt)[s.envIndex] &&& s.envMask3) ||| levelOf v s.vol3).toNat =
      voiceVolume v s := by
  obtain ⟨henv, hvol⟩ := hamp
  have hmode : envMode s.reg[8 + v.val] = s.reg[8 + v.val].getLsbD 4 := rfl
  have hlevel := Nat.lt_succ_of_le (envLevel_le s.shape.toNat s.envIndex)
  simp only [htab, levelOf_and, levelOf_envTable _ hindex, henv, hvol, voiceVolume, ← envIndex_eq_div, hmode]
  split
  · simp [level_and_ones, Nat.mod_eq_of_lt hlevel]
  · simp only [BitVec.ofNat_eq_ofNat, BitVec.and_zero, BitVec.zero_or, vol4to5_formula]
    rfl

/-- One field of the index: the voice's level if it is active (R173, R174). -/
theorem levelOf_volumeIndex_of_agrees (hgates : GatesAgree v s) (hamp : AmpAgrees v s)
    (hlev : s.nlev = 0x0000 ∨ s.nlev = 0xFFFF) (htab : s.envTab = envTable) (hindex : s.envIndex < 96) :
    (levelOf v (volumeIndex ((s.envTab[s.shape.toNat]'s.shape.isLt)[s.envIndex] &&& s.envMask3) s)).toNat =
      if voiceActive v s then voiceVolume v s else 0 := by
  rw [levelOf_volumeIndex, mixerTerm_eq hgates hlev, ← levelOf_voice hamp htab hindex]
  split
  · rw [levelOf_allOnes, BitVec.and_comm]
    exact congrArg BitVec.toNat (level_and_ones _)
  · rw [levelOf_zero]
    exact congrArg BitVec.toNat BitVec.zero_and

theorem noiseTick_envIndex_lt (h : s.epos.toNat < 96 * 2 ^ s.cfg.envFracBits) : (noiseTick s).envIndex < 96 := by
  rw [envIndex_eq_div, noiseTick_epos, noiseTick_cfg, ← envIndex_eq_div]
  exact envIndex_lt s h

/-- The index of a sample is the boolean mixer's after the noise tick (R151, R173, R174). -/
theorem sampleIndex_toNat (h : Inv s) (hfrac : 25 ≤ s.cfg.envFracBits) :
    (sampleIndex s).1.toNat = booleanIndex (noiseTick s) := by
  obtain ⟨-, -, hgates, hamp, -, -⟩ := derived_iff.mp h.derived
  obtain ⟨src, -, htab, -⟩ := h.tables
  obtain ⟨-, hlev⟩ := noiseTick_wf s h.cfg h.noise
  have hindex := noiseTick_envIndex_lt (h.env hfrac)
  have hgates' (v : Fin 3) : GatesAgree v (noiseTick s) := by
    simpa only [GatesAgree, noiseTick_gateT, noiseTick_gateN, noiseTick_reg] using hgates v
  have hamp' (v : Fin 3) : AmpAgrees v (noiseTick s) := by
    simpa only [AmpAgrees, noiseTick_envMask3, noiseTick_vol3, noiseTick_reg] using hamp v
  have hfield (v : Fin 3) := levelOf_volumeIndex_of_agrees (hgates' v) (hamp' v) hlev
    ((noiseTick_envTab s).trans htab) hindex
  rw [sampleIndex_of_inside rfl hindex, word3_toNat, hfield, hfield, hfield, booleanIndex]

/-- Settles O31: the index is the boolean mixer's, and the output stage answers its entry. -/
theorem sampleIsTheBooleanMix : Obligations.SampleIsTheBooleanMix := by
  intro s h hfrac
  obtain ⟨hout, hhist, hidx, hsum, hlp1, hlp2⟩ := nextSample_output s
  refine ⟨(sampleIndex s).1, sampleIndex_toNat h hfrac, hout, hhist, hidx, hsum, hlp1, hlp2, fun hoff => ?_⟩
  rw [hout, postProcess_off s _ hoff]
  rfl

/-! ### Disabled sources -/

/-- The tone and the noise of every voice are gated off, and no voice is in envelope mode (R178). -/
structure SourcesOff (s : State) : Prop where
  gateT : ∀ v : Fin 3, s.gateT[v] = 0xFFFF
  gateN : ∀ v : Fin 3, s.gateN[v] = 0xFFFF
  envMask3 : s.envMask3 = 0

/-- With the sources off every voice is active, and the index is `vol3`, whatever word the envelope reads. -/
theorem sampleIndex_of_sourcesOff (h : SourcesOff s) : (sampleIndex s).1 = s.vol3 := by
  have hterm (v : Fin 3) : mixerTerm v (envRead (noiseTick s)).2 = 0xFFFF := by
    rw [mixerTerm, envRead, readEnv_frame]
    simp only [noiseTick_gateT, noiseTick_gateN, h.gateT, h.gateN]
    exact (congrArg₂ (· &&& ·) BitVec.or_allOnes BitVec.or_allOnes).trans BitVec.and_self
  have hword : (envRead (noiseTick s)).1 = 0 := by
    rw [envRead, noiseTick_envMask3, h.envMask3]
    exact BitVec.and_zero
  have hvol : (envRead (noiseTick s)).2.vol3 = s.vol3 := by
    rw [envRead, readEnv_frame]
    exact noiseTick_vol3 s
  refine word3_ext _ _ fun v => ?_
  rw [sampleIndex, levelOf_volumeIndex, hterm, hword, hvol, levelOf_allOnes, BitVec.and_comm, ← levelOf_or]
  exact (level_and_ones _).trans (congrArg (levelOf v) BitVec.zero_or)

theorem nextSample_sourcesOff (h : SourcesOff s) : SourcesOff (nextSample s).2 :=
  ⟨fun v => (congrArg (·[v]) (nextSample_gateT s)).trans (h.gateT v),
    fun v => (congrArg (·[v]) (nextSample_gateN s)).trans (h.gateN v), (nextSample_envMask3 s).trans h.envMask3⟩

theorem samplesFrom_of_sourcesOff (n : Nat) (hoff : s.cfg.lpfEnable = false) (h : SourcesOff s) :
    samplesFrom n s = List.replicate n (s.readDac s.vol3) := by
  induction n generalizing s with
  | zero => rfl
  | succ n ih =>
    have hfirst : (nextSample s).1 = s.readDac s.vol3 := by
      rw [(nextSample_output s).1, postProcess_off s _ hoff, sampleIndex_of_sourcesOff h]
    have hkept : (nextSample s).2.readDac (nextSample s).2.vol3 = s.readDac s.vol3 := by
      simp only [State.readDac, nextSample_dacTab, nextSample_vol3]
    rw [samplesFrom, hfirst, ih (by rwa [nextSample_cfg]) (nextSample_sourcesOff h), hkept, List.replicate_succ]

/-- Settles O32: register 7 gates every source off, and samples write none of the fields the index is made of. -/
theorem disabledSourcesGiveAConstant : Obligations.DisabledSourcesGiveAConstant := by
  intro s n h hoff hmixer hmask
  refine samplesFrom_of_sourcesOff n hoff ⟨fun v => ?_, fun v => ?_, hmask⟩
  · rw [h.derived.gateT, hmixer]
    revert v
    decide
  · rw [h.derived.gateN, hmixer]
    revert v
    decide

end Sys2Proof.Machine
end

section
/-!
PROOFS. The output stage under a constant input (`46_dc_lowpass.md` R194): the history fills with the input from
slot 0 on, and the filter's two inputs fall to 0 behind it.
-/

namespace Sys2Proof.Machine

variable {s : State} {k : Sample} {n : Nat}

/-! ### Runs of one input -/

/-- One more input at the end of a run. -/
theorem filterRun_replicate_succ (k : Sample) (n : Nat) (s : State) :
    (filterRun (List.replicate (n + 1) k) s).2 = (postProcess k (filterRun (List.replicate n k) s).2).2 := by
  induction n generalizing s with
  | zero => rfl
  | succ n ih => exact ih (postProcess k s).2

/-- Output `j` of a run is that of the state `j` inputs leave. -/
theorem filterRun_replicate_getElem? (k : Sample) {j n : Nat} (h : j < n) (s : State) :
    (filterRun (List.replicate n k) s).1[j]? = some (postProcess k (filterRun (List.replicate j k) s).2).1 := by
  induction n generalizing s j with
  | zero => exact absurd h (Nat.not_lt_zero j)
  | succ n ih =>
    cases j with
    | zero => rfl
    | succ j => exact ih (Nat.lt_of_succ_lt_succ h) (postProcess k s).2

/-! ### The states of a run from a cleared history -/

/-- What `n` inputs `k` leave of a cleared history, and of the filter once the history is full. -/
structure Fed (k : Sample) (n : Nat) (s : State) : Prop where
  on : s.cfg.lpfEnable = true
  dc : DcWf s
  index : s.dcIdx = n % s.cfg.dcN
  hist : ∀ i < s.cfg.dcN, s.dcHist[i]? = some (if i < n then k else 0)
  lp1 : s.cfg.dcN < n → s.lp1 = 0
  lp2 : s.cfg.dcN + 1 < n → s.lp2 = 0

theorem sampleSum_replicate (n : Nat) (k : Sample) : sampleSum (List.replicate n k) = n * k.toInt := by
  simp [sampleSum]

/-- A full history's mean is the input (R194). -/
theorem Fed.dcEstimate (h : Fed k n s) (hfull : s.cfg.dcN ≤ n) : dcEstimate s = k.toInt := by
  have hhist : s.dcHist = List.replicate s.cfg.dcN k := by
    refine List.ext_getElem? fun i => ?_
    rcases Nat.lt_or_ge i s.cfg.dcN with hi | hi
    · rw [h.hist i hi, if_pos (hi.trans_le hfull), List.getElem?_replicate_of_lt hi]
    · rw [List.getElem?_eq_none (h.dc.length.trans_le hi), List.getElem?_eq_none (by simpa using hi)]
  have hpos : (s.cfg.dcN : Int) ≠ 0 := Int.natCast_ne_zero.mpr (Nat.ne_zero_of_lt h.dc.index)
  rw [Machine.dcEstimate, h.dc.sum, hhist, sampleSum_replicate, Int.mul_tdiv_cancel_left _ hpos]

theorem Fed.filterInput (h : Fed k n s) (hfull : s.cfg.dcN ≤ n) : filterInput k s = 0 := by
  rw [Machine.filterInput, h.dcEstimate hfull, Int.sub_self]
  rfl

/-- One more input: slot `n mod DC_N` is the first that is not yet `k`, or one that is. -/
theorem Fed.postProcess (h : Fed k n s) : Fed k (n + 1) (postProcess k s).2 := by
  have hdc := postProcess_dcWf s k h.dc
  rw [postProcess_on k h.on] at hdc ⊢
  refine ⟨h.on, hdc, ?_, fun i hi => ?_, fun hn => h.filterInput (Nat.le_of_lt_succ hn),
    fun hn => h.lp1 (Nat.lt_of_succ_lt_succ hn)⟩
  · exact (congrArg (fun j => (j + 1) % s.cfg.dcN) h.index).trans (Nat.mod_add_mod ..)
  · have hlen : i < s.dcHist.length := hi.trans_eq h.dc.length.symm
    have hslot : n % s.cfg.dcN = i → i < n + 1 := fun e => Nat.lt_succ_of_le (e ▸ Nat.mod_le ..)
    have hlater : n % s.cfg.dcN ≠ i → (i < n + 1 ↔ i < n) := fun e => by
      have : i ≠ n := fun g => e (g ▸ Nat.mod_eq_of_lt (g ▸ hi))
      omega
    show (s.dcHist.set s.dcIdx k)[i]? = _
    rw [List.getElem?_set, h.index, h.hist i hi]
    split
    · next e => rw [if_pos (hslot e), if_pos (e ▸ hlen)]
    · next e => simp only [hlater e]

/-- Two inputs after the history is full the output is 0 (R194). -/
theorem Fed.output (h : Fed k n s) (hn : s.cfg.dcN + 2 ≤ n) : (Machine.postProcess k s).1 = 0 := by
  rw [postProcess_on k h.on, h.filterInput (by omega), filterOutput_eq, h.lp1 (by omega), h.lp2 (by omega)]
  rfl

theorem fed_filterRun (h : Fed k 0 s) (n : Nat) : Fed k n (filterRun (List.replicate n k) s).2 := by
  induction n with
  | zero => exact h
  | succ n ih =>
    rw [filterRun_replicate_succ]
    exact ih.postProcess

@[simp] theorem postProcess_cfg (raw : Sample) (s : State) : (postProcess raw s).2.cfg = s.cfg := by
  rw [postProcess_frame]

@[simp] theorem filterRun_cfg (raws : List Sample) (s : State) : (filterRun raws s).2.cfg = s.cfg := by
  induction raws generalizing s with
  | nil => rfl
  | cons raw raws ih => exact (ih _).trans (postProcess_cfg raw s)

/-! ### The state after reset -/

theorem dcN_pos {cfg : Cfg} (h : CfgNumbersOk cfg) : 0 < cfg.dcN := by
  obtain ⟨-, -, -, -, -, -, -, hpow, -⟩ := h
  exact hpow ▸ Nat.two_pow_pos _

/-- The cleared history meets the DC adjuster's invariant (R31, R250). -/
theorem afterReset_dcWf {cfg : Cfg} (h : CfgNumbersOk cfg) (envTab : Vector (Vector Word3 96) 16)
    (dacTab : Vector Sample 32768) : DcWf (State.afterReset cfg envTab dacTab) where
  length := List.length_replicate ..
  index := dcN_pos h
  sum := by simp [State.afterReset, sampleSum_replicate]

theorem fed_afterReset {cfg : Cfg} (h : CfgNumbersOk cfg) (hon : cfg.lpfEnable = true) (k : Sample)
    (envTab : Vector (Vector Word3 96) 16) (dacTab : Vector Sample 32768) :
    Fed k 0 (State.afterReset cfg envTab dacTab) where
  on := hon
  dc := afterReset_dcWf h envTab dacTab
  index := (Nat.zero_mod _).symm
  hist i hi := by
    rw [if_neg (Nat.not_lt_zero i)]
    exact List.getElem?_replicate_of_lt hi
  lp1 hn := absurd hn (Nat.not_lt_zero _)
  lp2 hn := absurd hn (Nat.not_lt_zero _)

/-- Settles O34: the states of the run are those of `Fed`, from the cleared history of the reset on. -/
theorem constantInputSettlesToZero : Obligations.ConstantInputSettlesToZero := by
  intro cfg src k n hcfg hon s
  have hfed (m : Nat) : Fed k m (filterRun (List.replicate m k) s).2 := fed_filterRun (fed_afterReset hcfg hon k _ _) m
  have hdcN (m : Nat) : (filterRun (List.replicate m k) s).2.cfg.dcN = cfg.dcN := congrArg Cfg.dcN (filterRun_cfg ..)
  refine ⟨fun hn => (hfed n).dcEstimate ((hdcN n).trans_le hn), fun _ j hj hjn => ?_⟩
  rw [filterRun_replicate_getElem? k hjn, (hfed j).output ((congrArg (· + 2) (hdcN j)).trans_le hj)]

end Sys2Proof.Machine
end

section
/-!
PROOFS. Reset and creation (`70_reset_and_hazards.md` R250, R256): the fourteen writes of the reset make every derived
field agree with the registers they leave, and the registers determine the rest.
-/

namespace Sys2Proof.Machine

variable {s t : State} {cfg : Cfg}

/-! ### What the registers determine -/

/-- Of two states that meet the derived-state invariant with one configuration and one register file, the steps, the
gates, the three-voice words and the shape are the same (R29). -/
theorem Derived.fields_eq (hs : Derived s) (ht : Derived t) (hcfg : s.cfg = t.cfg) (hreg : s.reg = t.reg) :
    (s.tstep = t.tstep ∧ s.nstep = t.nstep ∧ s.estep = t.estep) ∧ (s.gateT = t.gateT ∧ s.gateN = t.gateN) ∧
      (s.vol3 = t.vol3 ∧ s.envMask3 = t.envMask3) ∧ s.shape = t.shape := by
  refine ⟨⟨?_, ?_, ?_⟩, ⟨?_, ?_⟩, ⟨?_, ?_⟩, ?_⟩
  · ext v hv : 1
    have hstep := hs.tstep ⟨v, hv⟩
    rw [hcfg, hreg, ← ht.tstep] at hstep
    exact hstep
  · rw [hs.nstep, ht.nstep, hcfg, hreg]
  · rw [hs.estep, ht.estep, hcfg, hreg]
  · ext v hv : 1
    have hgate := hs.gateT ⟨v, hv⟩
    rw [hreg, ← ht.gateT] at hgate
    exact hgate
  · ext v hv : 1
    have hgate := hs.gateN ⟨v, hv⟩
    rw [hreg, ← ht.gateN] at hgate
    exact hgate
  · exact word3_ext _ _ fun v => by rw [hs.volField, ht.volField, hreg]
  · exact word3_ext _ _ fun v => by rw [hs.envField, ht.envField, hreg]
  · rw [hs.shape, ht.shape, hreg]

/-! ### The reset state -/

/-- The register file after reset (R37). -/
def resetReg : Vector Byte 14 := #v[0, 0, 0, 0, 0, 0, 0, 0x3F, 0, 0, 0, 0, 0, 0]

theorem toneStep_zero (cfg : Cfg) : toneStep cfg 0 0 = 0 :=
  (toneStepFallsWithThePeriod cfg 0 0 0 0).1 (by decide)

theorem noiseStep_zero (cfg : Cfg) : noiseStep cfg 0 = 0 :=
  (noiseFloorAndEnvelopePeriodZero cfg).1 0 (by decide)

/-- The reset state meets the derived-state invariant (R29, R37). -/
theorem afterReset_derived (cfg : Cfg) (envTab : Vector (Vector Word3 96) 16) (dacTab : Vector Sample 32768) :
    Derived (State.afterReset cfg envTab dacTab) := by
  have hpair : ∀ v : Fin 3, resetReg[2 * v.val + 1] = 0 ∧ resetReg[2 * v.val] = 0 ∧
      (#v[0, 0, 0] : Vector Phase 3)[v] = 0 ∧ (#v[sentinel, sentinel, sentinel])[v] = 0x80000000 := by decide
  have hgates : ∀ v : Fin 3, (#v[0xFFFF, 0xFFFF, 0xFFFF] : Vector Mask16 3)[v] = toneGate resetReg[7] v ∧
      (#v[0xFFFF, 0xFFFF, 0xFFFF] : Vector Mask16 3)[v] = noiseGate resetReg[7] v := by decide
  have hamp : ∀ v : Fin 3, levelOf v 0 = (if envMode resetReg[8 + v.val] then 31 else 0) ∧
      levelOf v 0 = if envMode resetReg[8 + v.val] then 0 else vol4to5 (fixedVolume resetReg[8 + v.val]) := by decide
  have henv : (0 : Byte) = resetReg[12] ∧ (0 : Byte) = resetReg[11] := by decide
  have hshape : (0 : BitVec 4) = resetReg[13].extractLsb' 0 4 := by decide
  refine derived_iff.mpr ⟨fun v => ?_, ⟨(noiseStep_zero cfg).symm, fun _ => ⟨rfl, rfl⟩⟩, hgates, hamp,
    congrArg₂ (envStep cfg) henv.1 henv.2, hshape⟩
  obtain ⟨hhi, hlo, hstep, hpos⟩ := hpair v
  exact ⟨hstep.trans ((toneStep_zero cfg).symm.trans (congrArg₂ (toneStep cfg) hhi.symm hlo.symm)), fun _ => hpos⟩

/-- The writes of the loop of R250. -/
def resetWrites : List (Fin 14 × Byte) :=
  [(0, 0), (1, 0), (2, 0), (3, 0), (4, 0), (5, 0), (6, 0), (7, 0xFF), (8, 0), (9, 0), (10, 0), (11, 0), (12, 0),
    (13, 0)]

theorem resetRegisters_eq_writeRegs (s : State) : resetRegisters s = writeRegs resetWrites s := rfl

theorem resetRegisters_reg (s : State) : (resetRegisters s).reg = resetReg := by
  have hsets : (resetRegisters s).reg = resetWrites.foldl (fun v w => v.set w.1 (w.2 &&& regMask[w.1])) s.reg := rfl
  rw [hsets]
  ext i hi : 1
  interval_cases i <;> simp [resetWrites, resetReg, regMask]

/-- From every state the writes of the reset establish the derived-state invariant: each group has a register among
them. -/
theorem resetRegisters_derived (s : State) : Derived (resetRegisters s) := by
  rw [resetRegisters_eq_writeRegs]
  refine derived_iff.mpr ⟨fun v => ?_, ?_, fun v => ?_, fun v => ?_, ?_, ?_⟩
  · refine (toneAgrees_group v).writeRegs_of_own (w := (toneReg v 0, 0)) ?_ ?_ s
    · simp only [toneReg]; omega
    · revert v; decide
  · exact noiseAgrees_group.writeRegs_of_own (w := (6, 0)) rfl (by decide) s
  · exact (gatesAgree_group v).writeRegs_of_own (w := (7, 0xFF)) rfl (by decide) s
  · exact (ampAgrees_group v).writeRegs_of_own (w := (ampReg v, 0)) rfl (by revert v; decide) s
  · exact envAgrees_group.writeRegs_of_own (w := (11, 0)) (.inl rfl) (by decide) s
  · exact shapeAgrees_group.writeRegs_of_own (w := (13, 0)) rfl (by decide) s

/-- What the writes of the reset leave in the generators (R37). -/
theorem resetRegisters_generators (s : State) :
    ((resetRegisters s).tstep = #v[0, 0, 0] ∧ (resetRegisters s).pos = #v[sentinel, sentinel, sentinel]) ∧
    ((resetRegisters s).nstep = 0 ∧ (resetRegisters s).npos = 0 ∧ (resetRegisters s).nlev = 0xFFFF) ∧
    ((resetRegisters s).gateT = #v[0xFFFF, 0xFFFF, 0xFFFF] ∧ (resetRegisters s).gateN = #v[0xFFFF, 0xFFFF, 0xFFFF]) ∧
    ((resetRegisters s).vol3 = 0 ∧ (resetRegisters s).envMask3 = 0) ∧
    (resetRegisters s).estep = envStep s.cfg 0 0 := by
  have hderived := resetRegisters_derived s
  obtain ⟨⟨htstep, hnstep, hestep⟩, hgates, hwords, -⟩ :=
    hderived.fields_eq (afterReset_derived s.cfg s.envTab s.dacTab)
      (resetRegisters_keeps s State.cfg fun r d u => writeEffect_cfg u r d) (resetRegisters_reg s)
  refine ⟨⟨htstep, ?_⟩, ⟨hnstep, hderived.noisePinned hnstep⟩, hgates, hwords, hestep⟩
  have hzero : ∀ v : Fin 3, (#v[0, 0, 0] : Vector Phase 3)[v] = 0 ∧
      (#v[sentinel, sentinel, sentinel])[v] = 0x80000000 := by decide
  ext v hv : 1
  exact (hderived.tonePinned ⟨v, hv⟩ ((congrArg (·[v]) htstep).trans (hzero ⟨v, hv⟩).1)).trans (hzero ⟨v, hv⟩).2.symm

/-- `s` with the fields that a register write can change taken from `p`. -/
def withWritten (p s : State) : State :=
  { s with
    reg := p.reg, pos := p.pos, tstep := p.tstep, gateT := p.gateT, gateN := p.gateN, vol3 := p.vol3
    envMask3 := p.envMask3, nstep := p.nstep, npos := p.npos, nlev := p.nlev, estep := p.estep, epos := p.epos
    shape := p.shape, shapeChanged := p.shapeChanged }

/-- A run of register writes changes nothing else. -/
theorem writeRegs_frame (ws : List (Fin 14 × Byte)) (s : State) : writeRegs ws s = withWritten (writeRegs ws s) s := by
  induction ws generalizing s with
  | nil => rfl
  | cons w ws ih =>
    have hfirst : regUpdate w.1 (s.putReg w.1 w.2) = withWritten (regUpdate w.1 (s.putReg w.1 w.2)) s := by
      rw [← writeEffect_eq_regUpdate]
      exact writeEffect_frame ..
    calc writeRegs (w :: ws) s
      _ = withWritten (writeRegs (w :: ws) s) (regUpdate w.1 (s.putReg w.1 w.2)) := ih _
      _ = withWritten (writeRegs (w :: ws) s) s := (congrArg (withWritten (writeRegs (w :: ws) s)) hfirst).trans rfl

/-- `RESET` leaves the table of R37 from every state. -/
theorem resetState_eq (s : State) :
    resetState s = { State.afterReset s.cfg s.envTab s.dacTab with
      inbox := s.inbox, outbox := s.outbox, freeCtr := s.freeCtr } := by
  obtain ⟨⟨htstep, hpos⟩, ⟨hnstep, hnpos, hnlev⟩, ⟨hgateT, hgateN⟩, ⟨hvol, henv⟩, hestep⟩ := resetRegisters_generators s
  have hreg := resetRegisters_reg s
  have hframe := writeRegs_frame resetWrites s
  rw [← resetRegisters_eq_writeRegs] at hframe
  rw [resetState]
  generalize resetRegisters s = t at *
  rw [hframe, withWritten, hreg, hpos, htstep, hgateT, hgateN, hvol, henv, hnstep, hnpos, hnlev, hestep]
  rfl

/-- Settles O47: the meaning of `RESET` is `resetState`. -/
theorem resetLeavesTheResetState : Obligations.ResetLeavesTheResetState :=
  fun s => congrArg Host.Outcome.next (resetState_eq s)

/-! ### Creation -/

/-- The table that the strategy needs is present (R6). -/
theorem dacSource_isSome_iff (cfg : Cfg) :
    (dacSource cfg).isSome = true ↔ (cfg.dacStrategy = .measured → cfg.measuredDac16 ≠ none) ∧
      (cfg.dacStrategy = .linear → cfg.voiceDac32 ≠ none) := by
  unfold dacSource
  cases cfg.dacStrategy <;> simp [Option.isSome_iff_ne_none]

/-- `CREATE` refuses a configuration that it does not accept (R256). -/
theorem exec_create_of_not_ok (h : cfgOk cfg = false) (s : State) :
    exec (.create cfg) s = .refused .cfgIllFormed := by
  simp only [exec, execCreate]
  split
  · rfl
  · next src hsrc =>
    refine if_neg fun hnumbers => ?_
    rw [cfgOk, decide_eq_true hnumbers, hsrc] at h
    cases h

/-- Settles O48: the conditions of `CREATE` are those of `cfgOk`, and what it makes is a reset state. -/
theorem createBuildsAnInstance : Obligations.CreateBuildsAnInstance := by
  refine fun cfg s => ⟨fun h => exec_create_of_not_ok ?_ s, fun src hcfg hsrc => ?_⟩
  · rw [← dacSource_isSome_iff] at h
    simpa only [cfgOk, ← Bool.not_eq_true, Bool.and_eq_true, decide_eq_true_eq] using h
  · rw [exec_create s hsrc hcfg, resetState_eq]
    rfl

/-- Settles O49: the fields of `State.afterReset` at the vector configuration; the envelope step is computed. -/
theorem resetInstanceHasTheListedValues : Obligations.ResetInstanceHasTheListedValues := by
  refine ⟨rfl, fun v => ?_, ?_⟩
  · fin_cases v <;> exact ⟨rfl, rfl, rfl, rfl⟩
  · refine ⟨rfl, rfl, rfl, rfl, rfl, rfl, ?_, rfl, rfl, rfl, rfl, rfl, rfl, rfl, rfl, rfl, rfl, rfl, rfl, rfl, rfl,
      rfl, rfl⟩
    decide

end Sys2Proof.Machine
end

section
/-!
PROOFS. Snapshots (`47_scheduler_host.md` R206, R207): what `Consistent` asks of the record of a state, clause by
clause, and that a consistent record is the record of the state that takes its fields.
-/

namespace Sys2Proof.Machine

variable {s t : State} {cfg : Cfg} {σ : Snapshot}

/-! ### The words a register file gives -/

theorem levelOf_envMaskOf (reg : Vector Byte 14) (v : Fin 3) :
    levelOf v (envMaskOf reg) = if envMode reg[8 + v.val] then 31 else 0 := by
  have hfield (u : Fin 3) (amp : Byte) : levelOf v (envFieldOf u amp) = if v = u ∧ envMode amp then 31 else 0 := by
    have hzero : levelOf v 0 = 0 := levelOf_zero v
    rw [envFieldOf, apply_ite (levelOf v), levelOf_voiceMask, hzero]
    split <;> simp [*]
  simp only [envMaskOf, levelOf_or, hfield]
  fin_cases v <;> simp

theorem levelOf_volWordOf (reg : Vector Byte 14) (v : Fin 3) :
    levelOf v (volWordOf reg) = if envMode reg[8 + v.val] then 0 else vol4to5 (fixedVolume reg[8 + v.val]) := by
  have hfield (u : Fin 3) (amp : Byte) : levelOf v (volFieldOf u amp) =
      if v = u then (if envMode amp then 0 else vol4to5 (fixedVolume amp)) else 0 := by
    have hzero : levelOf v 0 = 0 := levelOf_zero v
    rw [volFieldOf, apply_ite (levelOf v), levelOf_levelAt, hzero]
    split <;> simp [*]
  simp only [volWordOf, levelOf_or, hfield]
  fin_cases v <;> simp

/-- The fields of both words agree with the amplitude registers exactly when the words are those the registers give
(R29). -/
theorem ampAgrees_iff : (∀ v, AmpAgrees v s) ↔ s.vol3 = volWordOf s.reg ∧ s.envMask3 = envMaskOf s.reg := by
  refine ⟨fun h => ⟨word3_ext _ _ fun v => ?_, word3_ext _ _ fun v => ?_⟩, fun ⟨hvol, henv⟩ v => ⟨?_, ?_⟩⟩
  · rw [(h v).2, levelOf_volWordOf]
  · rw [(h v).1, levelOf_envMaskOf]
  · rw [henv, levelOf_envMaskOf]
  · rw [hvol, levelOf_volWordOf]

/-! ### `Consistent` of the record of a state -/

/-- Words survive being written as numbers. -/
theorem map_toNat_map_ofNat {n w : Nat} (v : Vector (BitVec w) n) :
    (v.map BitVec.toNat).map (BitVec.ofNat w) = v := by
  ext i hi : 1
  simp

@[simp] theorem recordRegs_snapshotOf (s : State) : recordRegs (snapshotOf s) = s.reg :=
  map_toNat_map_ofNat s.reg

theorem regsMasked_snapshotOf (s : State) : regsMasked (snapshotOf s) = true ↔ RegsMasked s := by
  have hbyte (i : Fin 14) : (snapshotOf s).reg[i] = (s.reg[i]).toNat := Vector.getElem_map ..
  simp only [regsMasked, decide_eq_true_eq, RegsMasked, hbyte, ← BitVec.toNat_and, BitVec.toNat_inj]

theorem pinnedAgree_snapshotOf (s : State) : pinnedAgree (snapshotOf s) = true ↔
    (∀ v : Fin 3, s.tstep[v] = 0 → s.pos[v] = 0x80000000) ∧ (s.nstep = 0 → s.npos = 0 ∧ s.nlev = 0xFFFF) := by
  have hpos (v : Fin 3) : (snapshotOf s).pos[v] = (s.pos[v]).toNat := Vector.getElem_map ..
  have hstep (v : Fin 3) : (snapshotOf s).tstep[v] = (s.tstep[v]).toNat := Vector.getElem_map ..
  simp only [pinnedAgree, Bool.and_eq_true, decide_eq_true_eq, hpos, hstep, ← BitVec.toNat_inj]
  rfl

theorem rangesOk_snapshotOf (s : State) : rangesOk s.cfg (snapshotOf s) = true ↔
    NoiseWf s ∧ s.npos.toNat ≤ 0xFFFF ∧ s.epos.toNat < 96 * 2 ^ s.cfg.envFracBits := by
  have hpos (v : Fin 3) : (snapshotOf s).pos[v] < 2 ^ 32 := (Vector.getElem_map ..).trans_lt (s.pos[v]).isLt
  have hepos : (snapshotOf s).epos < 2 ^ 32 := s.epos.isLt
  have hseed : (snapshotOf s).seed ≤ 2 ^ 17 - 1 := Nat.le_of_lt_succ s.seed.isLt
  have hseed' : 1 ≤ (snapshotOf s).seed ↔ s.seed ≠ 0 := by
    rw [Nat.one_le_iff_ne_zero, ne_eq, ne_eq, ← BitVec.toNat_inj]; rfl
  have hlev : ((snapshotOf s).nlev = 0x0000 ∨ (snapshotOf s).nlev = 0xFFFF) ↔ (s.nlev = 0x0000 ∨ s.nlev = 0xFFFF) := by
    rw [← BitVec.toNat_inj, ← BitVec.toNat_inj]; rfl
  simp only [rangesOk, Bool.and_eq_true, decide_eq_true_eq, hpos, hepos, hseed, hseed', hlev, implies_true, true_and,
    and_true, NoiseWf, Config.envEntries, Nat.shiftLeft_eq]
  exact ⟨fun ⟨⟨⟨hnpos, hepos⟩, hseed⟩, hlev⟩ => ⟨⟨hseed, hlev⟩, hnpos, hepos⟩,
    fun ⟨⟨hseed, hlev⟩, hnpos, hepos⟩ => ⟨⟨⟨hnpos, hepos⟩, hseed⟩, hlev⟩⟩

theorem derivedAgree_snapshotOf (s : State) (h : RegsMasked s) : derivedAgree s.cfg (snapshotOf s) = true ↔
    (∀ v : Fin 3, s.tstep[v] = toneStep s.cfg s.reg[2 * v.val + 1] s.reg[2 * v.val]) ∧
      s.nstep = noiseStep s.cfg s.reg[6] ∧ EnvAgrees s ∧ (∀ v, AmpAgrees v s) ∧ ShapeAgrees s := by
  have hstep (v : Fin 3) : (snapshotOf s).tstep[v] = (s.tstep[v]).toNat := Vector.getElem_map ..
  have hshape : s.shape.toNat = (s.reg[13]).toNat ↔ ShapeAgrees s := by
    have hlt : (s.reg[13]).toNat < 16 := by
      have hmasked : s.reg[13] &&& 0x0F = s.reg[13] := h 13
      rw [← hmasked, BitVec.toNat_and]
      exact Nat.lt_succ_of_le Nat.and_le_right
    rw [ShapeAgrees, ← BitVec.toNat_inj, BitVec.extractLsb'_toNat, Nat.shiftRight_zero, Nat.mod_eq_of_lt hlt]
  rw [ampAgrees_iff, ← hshape]
  simp only [derivedAgree, Bool.and_eq_true, decide_eq_true_eq, hstep, recordRegs_snapshotOf, EnvAgrees,
    ← BitVec.toNat_inj, and_assoc]
  rfl

/-- What a record promises of the state it is taken from: the invariants but for the gates, which a record does not
hold, and the bounds of R207. -/
structure Importable (s : State) : Prop where
  regs : RegsMasked s
  tone : ∀ v, ToneAgrees v s
  noise : NoiseAgrees s
  amp : ∀ v, AmpAgrees v s
  env : EnvAgrees s
  shape : ShapeAgrees s
  noiseWf : NoiseWf s
  npos : s.npos.toNat ≤ 0xFFFF
  epos : s.epos.toNat < 96 * 2 ^ s.cfg.envFracBits

/-- The record of a state is consistent exactly when the state keeps what a record promises. -/
theorem consistent_snapshotOf_iff (s : State) : consistent s.cfg (snapshotOf s) = true ↔ Importable s := by
  simp only [consistent, Bool.and_eq_true, rangesOk_snapshotOf, regsMasked_snapshotOf, pinnedAgree_snapshotOf]
  constructor
  · rintro ⟨⟨⟨⟨hnoise, hnpos, hepos⟩, hregs⟩, htone, hpinned⟩, hagree⟩
    obtain ⟨htstep, hnstep, henv, hamp, hshape⟩ := (derivedAgree_snapshotOf s hregs).mp hagree
    exact ⟨hregs, fun v => ⟨htstep v, htone v⟩, ⟨hnstep, hpinned⟩, hamp, henv, hshape, hnoise, hnpos, hepos⟩
  · rintro ⟨hregs, htone, ⟨hnstep, hpinned⟩, hamp, henv, hshape, hnoise, hnpos, hepos⟩
    exact ⟨⟨⟨⟨hnoise, hnpos, hepos⟩, hregs⟩, fun v => (htone v).2, hpinned⟩,
      (derivedAgree_snapshotOf s hregs).mpr ⟨fun v => (htone v).1, hnstep, henv, hamp, hshape⟩⟩

theorem importable_of_derived (hregs : RegsMasked s) (h : Derived s) (hnoise : NoiseWf s)
    (hnpos : s.npos.toNat ≤ 0xFFFF) (hepos : s.epos.toNat < 96 * 2 ^ s.cfg.envFracBits) : Importable s := by
  obtain ⟨htone, hnstep, -, hamp, henv, hshape⟩ := derived_iff.mp h
  exact ⟨hregs, htone, hnstep, hamp, henv, hshape, hnoise, hnpos, hepos⟩

/-- With the gates of register 7 a state that keeps what a record promises meets the derived-state invariant. -/
theorem Importable.derived_gatesUpdate (h : Importable s) : Derived (gatesUpdate s) :=
  derived_iff.mpr ⟨h.tone, h.noise, gatesAgree_gatesUpdate s, h.amp, h.env, h.shape⟩

/-! ### Taking a record -/

/-- Numbers that fit a width survive being taken as words. -/
theorem map_ofNat_map_toNat {n w : Nat} {v : Vector Nat n} (h : ∀ i : Fin n, v[i] < 2 ^ w) :
    (v.map (BitVec.ofNat w)).map BitVec.toNat = v := by
  ext i hi
  rw [Vector.getElem_map, Vector.getElem_map, BitVec.toNat_ofNat]
  exact Nat.mod_eq_of_lt (h ⟨i, hi⟩)

/-- The entries of a masked record are bytes, and no larger than their masks. -/
theorem le_mask_of_regsMasked (h : regsMasked σ = true) (i : Fin 14) : σ.reg[i] ≤ regMask[i].toNat := by
  have hmasked := of_decide_eq_true h i
  rw [← hmasked]
  exact Nat.and_le_right

/-- Nothing of a consistent record is lost when its entries are taken as words: it is the record of the state that took
its fields. -/
theorem snapshotOf_importFields (h : consistent cfg σ = true) (s : State) : snapshotOf (importFields σ s) = σ := by
  simp only [consistent, rangesOk, derivedAgree, Bool.and_eq_true, decide_eq_true_eq] at h
  obtain ⟨⟨⟨⟨⟨⟨⟨⟨⟨hpos, hnpos⟩, hepos⟩, -⟩, -⟩, hseed⟩, hnlev⟩, hregs⟩, -⟩,
    ⟨⟨⟨⟨⟨htstep, hnstep⟩, hestep⟩, hvol⟩, henv⟩, hshape⟩⟩ := h
  have hmask := le_mask_of_regsMasked hregs
  have hreg : (recordRegs σ).map BitVec.toNat = σ.reg :=
    map_ofNat_map_toNat fun i => (hmask i).trans_lt (regMask[i]).isLt
  have hshape' : σ.shape < 2 ^ 4 := by
    have hreg13 : ((recordRegs σ)[13]).toNat = σ.reg[13] :=
      (Vector.getElem_map ..).symm.trans (congrArg (·[13]) hreg)
    rw [hshape, hreg13]
    exact (hmask 13).trans_lt (by decide)
  have hnlev' : σ.nlev < 2 ^ 16 := by omega
  simp only [snapshotOf, importFields, hreg, map_ofNat_map_toNat hpos,
    map_ofNat_map_toNat (w := 32) fun v => (htstep v).trans_lt (BitVec.isLt _), BitVec.toNat_ofNat,
    Nat.mod_eq_of_lt (show σ.npos < 2 ^ 32 by omega), Nat.mod_eq_of_lt (hnstep.trans_lt (BitVec.isLt _)),
    Nat.mod_eq_of_lt (show σ.seed < 2 ^ 17 by omega), Nat.mod_eq_of_lt hnlev', Nat.mod_eq_of_lt hepos,
    Nat.mod_eq_of_lt (hestep.trans_lt (BitVec.isLt _)), Nat.mod_eq_of_lt hshape',
    Nat.mod_eq_of_lt (hvol.trans_lt (BitVec.isLt _)), Nat.mod_eq_of_lt (henv.trans_lt (BitVec.isLt _))]

/-- A state that takes its own record does not change. -/
theorem importFields_snapshotOf (s : State) : importFields (snapshotOf s) s = s := by
  simp only [importFields, recordRegs, snapshotOf, map_toNat_map_ofNat, BitVec.ofNat_toNat, BitVec.setWidth_eq]

/-- The state that takes a consistent record keeps what the record promises. -/
theorem importable_importFields (h : consistent s.cfg σ = true) : Importable (importFields σ s) := by
  rw [← consistent_snapshotOf_iff, snapshotOf_importFields h]
  exact h

/-! ### The obligations -/

/-- Settles O42: the record is that of the state it leaves, and the gates are those of the register file taken. -/
theorem importTakesAConsistentRecord : Obligations.ImportTakesAConsistentRecord := by
  refine fun σ s => ⟨fun h => if_neg (Bool.eq_false_iff.mp h), fun h => ?_⟩
  have hkeeps := importable_importFields h
  exact ⟨_, exec_snapImport s h, snapshotOf_importFields h s, fun v => gatesAgree_gatesUpdate _ v,
    hkeeps.derived_gatesUpdate, hkeeps.regs, hkeeps.noiseWf, rfl⟩

/-- Settles O43: a consistent record is that of the reset state after taking it, and the record of a state with the
invariants is consistent. -/
theorem consistentRecordsAreThoseOfAState : Obligations.ConsistentRecordsAreThoseOfAState := by
  refine fun cfg σ => ⟨fun h => ?_, ?_⟩
  · obtain ⟨s, rfl⟩ : ∃ s : State, s.cfg = cfg := ⟨State.afterReset cfg envTable (Vector.replicate 32768 0), rfl⟩
    have hkeeps := importable_importFields h
    exact ⟨gatesUpdate (importFields σ s), rfl, snapshotOf_importFields h s, hkeeps.regs, hkeeps.derived_gatesUpdate,
      hkeeps.noiseWf, hkeeps.npos, hkeeps.epos⟩
  · rintro ⟨t, rfl, rfl, hregs, hderived, hnoise, hnpos, hepos⟩
    exact (consistent_snapshotOf_iff t).mpr (importable_of_derived hregs hderived hnoise hnpos hepos)

/-- Settles O44: the record is consistent, taking it changes nothing, and the gates already agree. -/
theorem importOfTheExportChangesNothing : Obligations.ImportOfTheExportChangesNothing := by
  intro s h hfrac hnpos
  have hkeeps := importable_of_derived h.regs h.derived h.noise hnpos (h.env hfrac)
  have hgates : gatesUpdate s = s := gatesUpdate_of_agrees fun v => ⟨h.derived.gateT v, h.derived.gateN v⟩
  rw [exec_snapImport s ((consistent_snapshotOf_iff s).mpr hkeeps), importFields_snapshotOf, hgates]

/-- Settles O45: a consistent record's position is within the bound. -/
theorem exportWithATickDueIsRefused : Obligations.ExportWithATickDueIsRefused := by
  refine fun s hdue => if_neg fun h => ?_
  exact absurd ((consistent_snapshotOf_iff s).mp h).npos (Nat.not_le.mpr hdue)

/-! ### The same generators, the same samples -/

theorem noiseTick_sameGenerators (h : SameGenerators s t) : SameGenerators (noiseTick s) (noiseTick t) := by
  rcases noiseTick_cases s with ⟨hs, es⟩ | ⟨hs, es⟩ <;> rcases noiseTick_cases t with ⟨ht, et⟩ | ⟨ht, et⟩ <;>
    rw [h.npos, h.cfg] at hs
  · rw [es, et]
    exact h
  · exact absurd hs (Nat.not_lt.mpr ht)
  · exact absurd ht (Nat.not_lt.mpr hs)
  · rw [es, et]
    exact { h with
      nlev := by simp only [h.nlev, h.cfg, h.seed]
      seed := by simp only [h.cfg, h.seed]
      npos := by simp only [h.npos, h.cfg] }

theorem SameGenerators.envIndex (h : SameGenerators s t) : s.envIndex = t.envIndex := by
  simp only [State.envIndex, h.epos, h.cfg]

theorem SameGenerators.volumeIndex (h : SameGenerators s t) (w : Word3) : volumeIndex w s = volumeIndex w t := by
  simp only [Machine.volumeIndex, activeMask, activeField, mixerTerm, toneLevel, h.pos, h.gateT, h.gateN, h.nlev,
    h.vol3]

/-- With the position inside the table the index of a sample is made of the generators alone. -/
theorem SameGenerators.sampleIndex (h : SameGenerators s t) (hinside : t.epos.toNat < 96 * 2 ^ t.cfg.envFracBits) :
    (sampleIndex s).1 = (sampleIndex t).1 := by
  have htick := noiseTick_sameGenerators h
  have hindex := noiseTick_envIndex_lt hinside
  rw [sampleIndex_of_inside rfl (htick.envIndex.trans_lt hindex), sampleIndex_of_inside rfl hindex]
  simp only [htick.volumeIndex, htick.envTab, htick.shape, htick.envIndex, htick.envMask3]

/-- With the filter off a sample is made of the generators alone. -/
theorem SameGenerators.sample (h : SameGenerators s t) (hoff : t.cfg.lpfEnable = false)
    (hinside : t.epos.toNat < 96 * 2 ^ t.cfg.envFracBits) : (nextSample s).1 = (nextSample t).1 := by
  rw [(nextSample_output s).1, (nextSample_output t).1, postProcess_off s _ (h.cfg ▸ hoff), postProcess_off t _ hoff,
    h.sampleIndex hinside, State.readDac, State.readDac]
  simp only [h.dacTab]

/-- A sample moves the same generators alike. -/
theorem nextSample_sameGenerators (h : SameGenerators s t) : SameGenerators (nextSample s).2 (nextSample t).2 := by
  have htick := noiseTick_sameGenerators h
  obtain ⟨hseed, hnlev, hnpos⟩ := nextSample_noise s
  obtain ⟨hseed', hnlev', hnpos'⟩ := nextSample_noise t
  obtain ⟨hpos, hepos⟩ := nextSample_positions s
  obtain ⟨hpos', hepos'⟩ := nextSample_positions t
  have hposEq (v : Fin 3) : (nextSample s).2.pos[v] = (nextSample t).2.pos[v] := by rw [hpos, hpos', h.pos, h.tstep]
  refine ⟨?_, ?_, ?_, ?_, ?_, ?_, ?_, ?_, ?_, ?_, ?_, ?_, ?_, ?_, ?_, ?_⟩
  case refine_4 =>
    ext v hv : 1
    exact hposEq ⟨v, hv⟩
  all_goals simp only [nextSample_cfg, nextSample_envTab, nextSample_dacTab, nextSample_tstep, nextSample_gateT,
    nextSample_gateN, nextSample_vol3, nextSample_envMask3, nextSample_nstep, nextSample_estep, nextSample_shape,
    h.cfg, h.envTab, h.dacTab, h.tstep, h.gateT, h.gateN, h.vol3, h.envMask3, h.nstep, h.estep, h.shape,
    hseed, hseed', hnlev, hnlev', hnpos, hnpos', hepos, hepos', htick.seed, htick.nlev, htick.npos, h.epos]

/-- From the same generators, with the filter off and no free value read, the samples are the same. -/
theorem samplesFrom_of_sameGenerators (n : Nat) (h : SameGenerators s t) (hoff : t.cfg.lpfEnable = false)
    (hfrac : 25 ≤ t.cfg.envFracBits) (hinside : t.epos.toNat < 96 * 2 ^ t.cfg.envFracBits) :
    samplesFrom n s = samplesFrom n t ∧ SameGenerators (afterSamples n s) (afterSamples n t) := by
  induction n generalizing s t with
  | zero => exact ⟨rfl, h⟩
  | succ n ih =>
    have hinside' : (nextSample t).2.epos.toNat < 96 * 2 ^ (nextSample t).2.cfg.envFracBits := by
      rw [(nextSample_positions t).2, nextSample_cfg]
      exact envWrapped_lt _ hfrac _
    obtain ⟨hrest, hafter⟩ :=
      ih (nextSample_sameGenerators h) (by rwa [nextSample_cfg]) (by rwa [nextSample_cfg]) hinside'
    exact ⟨congrArg₂ List.cons (h.sample hoff hinside) hrest, hafter⟩

/-- Settles O46: the importing state has the generators of the one exported, whose gates are those of its registers. -/
theorem importReplaysTheSamples : Obligations.ImportReplaysTheSamples := by
  intro s u v n h hfrac hoff hcfg henvTab hdacTab himport
  by_cases hσ : consistent u.cfg (snapshotOf s) = true
  · cases (exec_snapImport u hσ).symm.trans himport
    have hgates : gatesUpdate s = s := gatesUpdate_of_agrees fun v => ⟨h.derived.gateT v, h.derived.gateN v⟩
    have hsame : SameGenerators (gatesUpdate (importFields (snapshotOf s) u))
        (gatesUpdate (importFields (snapshotOf s) s)) :=
      ⟨hcfg, henvTab, hdacTab, rfl, rfl, rfl, rfl, rfl, rfl, rfl, rfl, rfl, rfl, rfl, rfl, rfl⟩
    rw [importFields_snapshotOf, hgates] at hsame
    exact samplesFrom_of_sameGenerators n hsame hoff hfrac (h.env hfrac)
  · cases (if_neg hσ).symm.trans himport

end Sys2Proof.Machine
end

section
/-!
PROOFS. The whole machine: the invariants of `10_state.md` through every step, and what the operations read, write,
refuse and hand out, from the list of the operations that complete.
-/

namespace Sys2Proof.Machine

variable {s t : State} {i : Instr}

/-! ### Register writes keep the invariants -/

theorem noiseWf_regUpdate (r : Fin 14) (h : NoiseWf s) : NoiseWf (regUpdate r s) := by
  cases r using register_cases with
  | tone w k =>
    rw [regUpdate_toneReg]
    exact h
  | amp w =>
    rw [regUpdate_ampReg]
    exact h
  | noise =>
    refine ⟨h.1, ?_⟩
    show (noiseUpdate s).nlev = 0x0000 ∨ (noiseUpdate s).nlev = 0xFFFF
    rw [(noiseUpdate_spec s).2.2]
    split
    · exact .inr rfl
    · exact h.2
  | mixer | envFine | envCoarse | shape => exact h

theorem envWf_regUpdate (r : Fin 14) (h : EnvWf s) : EnvWf (regUpdate r s) := by
  cases r using register_cases with
  | tone w k =>
    rw [regUpdate_toneReg]
    exact h
  | amp w =>
    rw [regUpdate_ampReg]
    exact h
  | shape => exact fun _ => Nat.mul_pos (by decide) (Nat.two_pow_pos _)
  | noise | mixer | envFine | envCoarse => exact h

theorem regsMasked_write (h : RegsMasked s) (r : Fin 14) (d : Byte) : RegsMasked (regUpdate r (s.putReg r d)) := by
  intro i
  simpa only [regUpdate_reg] using putReg_masked s h r d i

theorem inv_writeEffect (h : Inv s) (i : BitVec 4) (d : Byte) : Inv (writeEffect i d s) := by
  rcases writeEffect_cases s i d with e | ⟨r, e⟩ <;> rw [e]
  · exact h
  · have hframe : regUpdate r (s.putReg r d) = withWritten (regUpdate r (s.putReg r d)) s := writeRegs_frame [(r, d)] s
    exact
      { cfg := hframe ▸ h.cfg
        tables := by rw [hframe]; exact h.tables
        regs := regsMasked_write h.regs r d
        derived := derived_write h.derived r d
        noise := noiseWf_regUpdate r h.noise
        env := envWf_regUpdate r h.env
        ring := by rw [hframe]; exact { h.ring with }
        dc := by rw [hframe]; exact { h.dc with } }

/-! ### Samples keep the invariants -/

theorem nextSample_derived (h : Derived s) : Derived (nextSample s).2 := by
  obtain ⟨htone, hnoise, hgates, hamp, henv, hshape⟩ := derived_iff.mp h
  refine derived_iff.mpr ⟨fun v => ⟨?_, fun hzero => ?_⟩, ⟨?_, fun hzero => ?_⟩, fun v => ?_, fun v => ?_, ?_, ?_⟩
  · rw [nextSample_frame]
    exact (htone v).1
  · have hzero' : s.tstep[v] = 0 := by rwa [nextSample_tstep] at hzero
    rw [(nextSample_positions s).1, hzero', (htone v).2 hzero']
    rfl
  · rw [nextSample_frame]
    exact hnoise.1
  · rw [nextSample_nstep] at hzero
    obtain ⟨hnpos, hnlev⟩ := hnoise.2 hzero
    have hpinned := nextSample_noisePinned ⟨hzero, rfl, hnlev, hnpos⟩
    exact ⟨hpinned.npos, hpinned.nlev⟩
  · rw [nextSample_frame]
    exact hgates v
  · rw [nextSample_frame]
    exact hamp v
  · rw [nextSample_frame]
    exact henv
  · rw [nextSample_frame]
    exact hshape

theorem nextSample_dcWf (h : DcWf s) : DcWf (nextSample s).2 := by
  obtain ⟨-, hhist, hidx, hsum, -, -⟩ := nextSample_output s
  obtain ⟨hlen, hlt, hsum'⟩ := postProcess_dcWf s (s.readDac (sampleIndex s).1) h
  rw [postProcess_cfg] at hlen hlt
  refine ⟨?_, ?_, ?_⟩
  · rw [hhist, hlen, nextSample_cfg]
  · rwa [hidx, nextSample_cfg]
  · rw [hsum, hsum', hhist]

theorem inv_nextSample (h : Inv s) : Inv (nextSample s).2 where
  cfg := by rw [nextSample_frame]; exact h.cfg
  tables := by rw [nextSample_frame]; exact h.tables
  regs := by rw [nextSample_frame]; exact h.regs
  derived := nextSample_derived h.derived
  noise := by
    obtain ⟨hseed, hnlev, -⟩ := nextSample_noise s
    rw [NoiseWf, hseed, hnlev]
    exact noiseTick_wf s h.cfg h.noise
  env hfrac := by
    rw [nextSample_cfg] at hfrac ⊢
    rw [(nextSample_positions s).2]
    exact envWrapped_lt s.cfg hfrac _
  ring := by rw [nextSample_frame]; exact { h.ring with }
  dc := nextSample_dcWf h.dc

theorem inv_afterSamples (h : Inv s) (n : Nat) : Inv (afterSamples n s) :=
  afterSamples_keeps (fun _ => inv_nextSample) n h

/-! ### The other operations keep the invariants -/

/-- Of the fields that no sample reads, the invariants ask for the ring's alone. -/
theorem Inv.withPath {p : State} (h : Inv s) (hring : RingWf (withPath s p)) : Inv (withPath s p) :=
  { h with
    derived := { h.derived with }
    ring := hring
    dc := { h.dc with } }

theorem ringCapacity_pos {cfg : Cfg} (h : CfgNumbersOk cfg) : 0 < cfg.ringCapacity := by
  obtain ⟨-, -, -, -, -, -, -, -, hcap, -⟩ := h
  exact hcap

/-- The seed that `RESET` takes from an accepted configuration is not 0 (R26, R256). -/
theorem resetSeed_ne_zero {cfg : Cfg} (h : CfgNumbersOk cfg) : BitVec.ofNat 17 cfg.lfsrSeed ≠ 0 := by
  obtain ⟨-, -, -, -, -, -, -, -, -, -, -, -, hpos, hle⟩ := h
  have hfits : cfg.lfsrSeed < 2 ^ 17 := Nat.lt_of_le_pred (Nat.two_pow_pos 17) hle
  intro hzero
  have hmod := congrArg BitVec.toNat hzero
  rw [BitVec.toNat_ofNat, Nat.mod_eq_of_lt hfits] at hmod
  exact absurd hmod (Nat.ne_of_gt hpos)

/-- The register file after reset is masked (R21, R37). -/
theorem resetReg_masked : ∀ i : Fin 14, resetReg[i] &&& regMask[i] = resetReg[i] := by decide

theorem Inv.emit (h : Inv s) (e : Output) : Inv (s.emit e) :=
  h.withPath (p := s.emit e) { h.ring with }

/-- The reset state meets the invariants, whatever stands on the interface (R37, R257). -/
theorem inv_afterReset {cfg : Cfg} {envTab : Vector (Vector Word3 96) 16} {dacTab : Vector Sample 32768}
    (hcfg : CfgNumbersOk cfg) (htables : TablesBuilt (State.afterReset cfg envTab dacTab))
    (inbox : List Command) (outbox : List Output) (freeCtr : Nat) :
    Inv { State.afterReset cfg envTab dacTab with inbox := inbox, outbox := outbox, freeCtr := freeCtr } := by
  have hcap := ringCapacity_pos hcfg
  exact
    { cfg := hcfg
      tables := htables
      regs := resetReg_masked
      derived := { afterReset_derived cfg envTab dacTab with }
      noise := ⟨resetSeed_ne_zero hcfg, .inr rfl⟩
      env := fun _ => Nat.mul_pos (by decide) (Nat.two_pow_pos _)
      ring := ⟨List.length_replicate .., hcap, hcap, Nat.zero_le _, Nat.zero_mod _⟩
      dc := { afterReset_dcWf hcfg envTab dacTab with } }

theorem inv_resetState (hcfg : CfgNumbersOk s.cfg) (htables : TablesBuilt s) : Inv (resetState s) := by
  rw [resetState_eq]
  exact inv_afterReset hcfg htables _ _ _

theorem inv_import {σ : Snapshot} (h : Inv s) (hσ : consistent s.cfg σ = true) :
    Inv (gatesUpdate (importFields σ s)) :=
  have hkeeps := importable_importFields hσ
  { cfg := h.cfg
    tables := h.tables
    regs := hkeeps.regs
    derived := hkeeps.derived_gatesUpdate
    noise := hkeeps.noiseWf
    env := fun _ => hkeeps.epos
    ring := { h.ring with }
    dc := { h.dc with } }

/-- Every operation that completes keeps the invariants. -/
theorem inv_of_completes (h : Inv s) (hc : Completes s i t) : Inv t := by
  cases hc with
  | write r d => exact inv_writeEffect h r d
  | reset => exact inv_resetState h.cfg h.tables
  | advance c =>
    exact (inv_afterSamples h _).withPath (p := advanceEffect c s) (execAdvance_ringWf s c _ h.ring (exec_advance s c))
  | consume k hk => exact h.withPath (p := consumeEffect k s) (execConsume_ringWf s k _ h.ring (exec_consume s hk))
  | ackShape => exact (h.withPath (p := s.clearShapeChanged) { h.ring with }).emit _
  | snapExport => exact h.emit _
  | snapImport σ hσ => exact inv_import h hσ
  | nextSample => exact (inv_nextSample h).emit _
  | create cfg src hsrc hcfg => exact inv_resetState hcfg ⟨src, hsrc, rfl, rfl⟩

/-- Settles O50: a step does nothing, or runs an operation in the state without its command, which meets the
invariants as well. -/
theorem everyStepKeepsTheInvariants : Obligations.EveryStepKeepsTheInvariants := by
  intro s t h hstep
  cases hinbox : s.inbox with
  | nil =>
    simp only [step, hinbox] at hstep
    cases hstep
    exact h
  | cons c rest =>
    rw [step_of_inbox s hinbox] at hstep
    exact inv_of_completes (h.withPath (p := { s with inbox := rest }) { h.ring with }) (completes_of_exec hstep)

/-- Settles O51: what `CREATE` makes is the reset state with the tables of the configuration. -/
theorem createdInstanceMeetsTheInvariants : Obligations.CreatedInstanceMeetsTheInvariants :=
  fun _ src hcfg hsrc => inv_afterReset hcfg ⟨src, hsrc, rfl, rfl⟩ [] [] 0

/-- Settles O52: the vector configuration is one that `CREATE` accepts. -/
theorem resetMeetsTheInvariants : Obligations.ResetMeetsTheInvariants :=
  createdInstanceMeetsTheInvariants vectorCfg (.linear exampleVoiceDac) (by decide) rfl

/-! ### Frames of the operations that complete -/

theorem writeEffect_seed (s : State) (r : BitVec 4) (d : Byte) : (writeEffect r d s).seed = s.seed := by
  rw [writeEffect_frame]

/-- Settles O54: of the operations that complete, those not listed leave the seed. -/
theorem seedChangesOnlyWhereListed : Obligations.SeedChangesOnlyWhereListed := by
  intro i s t h hne
  cases completes_of_exec h with
  | write r d => exact absurd (writeEffect_seed s r d) hne
  | nextSample => exact .inl rfl
  | advance c => exact .inr (.inl ⟨c, rfl⟩)
  | reset => exact .inr (.inr (.inl rfl))
  | create cfg => exact .inr (.inr (.inr (.inl ⟨cfg, rfl⟩)))
  | snapImport σ => exact .inr (.inr (.inr (.inr ⟨σ, rfl⟩)))
  | consume | ackShape | snapExport => exact absurd rfl hne

@[simp] theorem afterSamples_reg (n : Nat) (s : State) : (afterSamples n s).reg = s.reg := by
  induction n generalizing s with
  | zero => rfl
  | succ n ih => rw [afterSamples, ih, nextSample_reg]

/-- Settles O55: of the operations that complete, those not listed leave the register file, samples by induction on
their number. -/
theorem registersHaveThreeWriters : Obligations.RegistersHaveThreeWriters := by
  intro i s t h hne
  cases completes_of_exec h with
  | write r d => exact .inl ⟨r, d, rfl⟩
  | reset => exact .inr (.inl rfl)
  | create cfg => exact .inr (.inr (.inl ⟨cfg, rfl⟩))
  | snapImport σ => exact .inr (.inr (.inr ⟨σ, rfl⟩))
  | nextSample => exact absurd (nextSample_reg s) hne
  | advance c => exact absurd (afterSamples_reg _ s) hne
  | consume | ackShape | snapExport => exact absurd rfl hne

/-! ### Refusals -/

theorem exec_consume_eq_refused_iff {k : Nat} {r : Refusal} :
    exec (.consume k) s = .refused r ↔ r = .consumeTooMany ∧ s.pending < k := by
  by_cases hk : k ≤ s.pending
  · simp [exec_consume s hk, Nat.not_lt.mpr hk]
  · have hrefused : exec (.consume k) s = .refused .consumeTooMany := if_pos (Nat.lt_of_not_le hk)
    simp [hrefused, Nat.lt_of_not_le hk, eq_comm]

theorem exec_snapImport_eq_refused_iff {σ : Snapshot} {r : Refusal} :
    exec (.snapImport σ) s = .refused r ↔ r = .snapshotInconsistent ∧ consistent s.cfg σ = false := by
  by_cases hσ : consistent s.cfg σ = true
  · simp [exec_snapImport s hσ, hσ]
  · have hrefused : exec (.snapImport σ) s = .refused .snapshotInconsistent := if_neg hσ
    simp [hrefused, hσ, eq_comm]

theorem exec_create_eq_refused_iff {cfg : Cfg} {r : Refusal} :
    exec (.create cfg) s = .refused r ↔ r = .cfgIllFormed ∧ cfgOk cfg = false := by
  by_cases hok : cfgOk cfg = true
  · obtain ⟨hnumbers, hsome⟩ := (Bool.and_eq_true_iff ..).mp hok
    obtain ⟨src, hsrc⟩ := Option.isSome_iff_exists.mp hsome
    simp [exec_create s hsrc (of_decide_eq_true hnumbers), hok]
  · simp [exec_create_of_not_ok (Bool.eq_false_of_not_eq_true hok), hok, eq_comm]

/-- Settles O57: `exec` refuses the reserved rows, three operations on their condition, and nothing else. -/
theorem refusalsAreTheListedOnes : Obligations.RefusalsAreTheListedOnes := by
  intro i s r
  cases i with
  | consume k => simpa using exec_consume_eq_refused_iff
  | snapImport σ => simpa using exec_snapImport_eq_refused_iff
  | create cfg => simpa using exec_create_eq_refused_iff
  | reservedOperand1 | reservedOperand2 | reservedOperand3 | reservedOperand4 | reservedOperand5 | reservedOperand6 =>
    simpa using ⟨fun h => by cases h; rfl, fun h => h ▸ rfl⟩
  | reserved7 | reserved8 | reserved9 | reservedA | reservedB | reservedC | reservedD | reservedE | reservedF =>
    simpa using ⟨fun h => by cases h; rfl, fun h => h ▸ rfl⟩
  | writeR0 | writeR1 | writeR2 | writeR3 | writeR4 | writeR5 | writeR6 | writeR7 | writeR8 | writeR9 | writeR10
  | writeR11 | writeR12 | writeR13 | writeR14 | writeR15 | reset | advance | ackShape | snapExport | nextSample =>
    exact iff_of_false (fun h => by cases h) (by simp)

/-! ### The interface -/

/-- An operation that completes leaves the inbox, and hands out at most one thing. -/
theorem interface_of_completes (h : Completes s i t) :
    t.inbox = s.inbox ∧ ∃ new, t.outbox = s.outbox ++ new ∧ new.length ≤ 1 := by
  cases h with
  | write r d =>
    rw [writeEffect_frame]
    exact ⟨rfl, [], (List.append_nil _).symm, Nat.zero_le _⟩
  | reset | create =>
    rw [resetState_eq]
    exact ⟨rfl, [], (List.append_nil _).symm, Nat.zero_le _⟩
  | advance c =>
    have hinbox : (afterSamples (samplesGenerated c s) s).inbox = s.inbox := by
      rw [afterSamples_path]
      rfl
    exact ⟨hinbox, _, rfl, Nat.le_refl 1⟩
  | consume | ackShape | snapExport => exact ⟨rfl, _, rfl, Nat.le_refl 1⟩
  | snapImport => exact ⟨rfl, [], (List.append_nil _).symm, Nat.zero_le _⟩
  | nextSample => exact ⟨nextSample_inbox s, _, congrArg (· ++ _) (nextSample_outbox s), Nat.le_refl 1⟩

/-- Settles O58: a step takes the oldest command away, and the operation it runs keeps the rest. -/
theorem stepTakesOneCommandAndAppends : Obligations.StepTakesOneCommandAndAppends := by
  intro s t hstep
  cases hinbox : s.inbox with
  | nil =>
    simp only [step, hinbox] at hstep
    cases hstep
    exact ⟨hinbox, [], (List.append_nil _).symm, Nat.zero_le _⟩
  | cons c rest =>
    rw [step_of_inbox s hinbox] at hstep
    exact interface_of_completes (completes_of_exec hstep)

/-! ### The free value -/

theorem nextSample_freeCtr (h : s.epos.toNat < 96 * 2 ^ s.cfg.envFracBits) :
    (nextSample s).2.freeCtr = s.freeCtr := by
  rw [nextSample, postProcess_frame, sampleIndex_of_inside rfl (noiseTick_envIndex_lt h)]
  exact noiseTick_freeCtr s

theorem afterSamples_freeCtr (h : Inv s) (hfrac : 25 ≤ s.cfg.envFracBits) (n : Nat) :
    (afterSamples n s).freeCtr = s.freeCtr := by
  induction n generalizing s with
  | zero => rfl
  | succ n ih =>
    exact (ih (inv_nextSample h) (by rwa [nextSample_cfg])).trans (nextSample_freeCtr (h.env hfrac))

/-- Settles O60: samples keep the position inside the table, and nothing else reads the envelope. -/
theorem freeValueIsNeverReadAtTheDefaults : Obligations.FreeValueIsNeverReadAtTheDefaults := by
  intro i s t h hfrac he
  cases completes_of_exec he with
  | write r d => rw [writeEffect_frame]
  | reset | create => rw [resetState_eq]
  | advance c => exact afterSamples_freeCtr h hfrac _
  | nextSample => exact nextSample_freeCtr (h.env hfrac)
  | consume | ackShape | snapExport | snapImport => rfl

end Sys2Proof.Machine
end
